-- ==== Sys2Proof/Word.lean ====
section
/-! DEFINITION. The word types of the machine and the names of its register, pair and condition operands
(spec/00_scope.md R6, R9; spec/10_state.md R21; spec/30_encoding.md R103). -/

namespace Sys2Proof

/-- A byte: 8 bits (R9). -/
abbrev Byte := BitVec 8

/-- A word: 16 bits; also a bus address (R9, R60). -/
abbrev Word := BitVec 16

/-- A 32-bit colour, one pixel of the framebuffer (R36, R346). -/
abbrev Colour := BitVec 32

/-- The eight 8-bit registers less F, which is never an `r` operand (R21, R22, R104). -/
inductive Reg8 where
  | b | c | d | e | h | l | a
  deriving DecidableEq, Repr

/-- The pair table `rp` of R103: BC, DE, HL, SP. -/
inductive RegPair where
  | bc | de | hl | sp
  deriving DecidableEq, Repr

/-- The pair table `rp2` of R103: BC, DE, HL, AF (PUSH and POP). -/
inductive StackPair where
  | bc | de | hl | af
  deriving DecidableEq, Repr

/-- The four conditions of table `cc` of R103 (R250). -/
inductive Cond where
  | nz | z | nc | c
  deriving DecidableEq, Repr

/-- The eight accumulator operations of table `alu` of R103. -/
inductive AluOp where
  | add | adc | sub | sbc | and | xor | or | cp
  deriving DecidableEq, Repr

/-- The eight shifter operations of table `rot` of R103. -/
inductive ShiftOp where
  | rlc | rrc | rl | rr | sla | sra | swap | srl
  deriving DecidableEq, Repr

end Sys2Proof
end

