-- ==== Sys2Proof/Syntax.lean ====
section
/-! DEFINITION. The instructions: one constructor for each mnemonic of spec/opcode_table.json
(R107, R108, R109), those with an operand in the instruction stream first, each group in the table's order. An operand byte or word that follows the opcode in the instruction stream is the constructor's
argument; everything else a row fixes (registers, condition, bit index, restart target) is in the constructor. -/

namespace Sys2Proof

inductive Instr where
  /-- LD BC,n16 (01, R150) -/
  | ldBcN16 (n : Word)
  /-- LD B,n8 (06, R131) -/
  | ldBN8 (n : Byte)
  /-- LD (n16),SP (08, R151) -/
  | ldAtN16Sp (n : Word)
  /-- LD C,n8 (0E, R131) -/
  | ldCN8 (n : Byte)
  /-- LD DE,n16 (11, R150) -/
  | ldDeN16 (n : Word)
  /-- LD D,n8 (16, R131) -/
  | ldDN8 (n : Byte)
  /-- JR e8 (18, R254) -/
  | jrE8 (e : Byte)
  /-- LD E,n8 (1E, R131) -/
  | ldEN8 (n : Byte)
  /-- JR NZ,e8 (20, R255) -/
  | jrNzE8 (e : Byte)
  /-- LD HL,n16 (21, R150) -/
  | ldHlN16 (n : Word)
  /-- LD H,n8 (26, R131) -/
  | ldHN8 (n : Byte)
  /-- JR Z,e8 (28, R255) -/
  | jrZE8 (e : Byte)
  /-- LD L,n8 (2E, R131) -/
  | ldLN8 (n : Byte)
  /-- JR NC,e8 (30, R255) -/
  | jrNcE8 (e : Byte)
  /-- LD SP,n16 (31, R150) -/
  | ldSpN16 (n : Word)
  /-- LD (HL),n8 (36, R134) -/
  | ldAtHlN8 (n : Byte)
  /-- JR C,e8 (38, R255) -/
  | jrCE8 (e : Byte)
  /-- LD A,n8 (3E, R131) -/
  | ldAN8 (n : Byte)
  /-- JP NZ,n16 (C2, R252) -/
  | jpNzN16 (n : Word)
  /-- JP n16 (C3, R251) -/
  | jpN16 (n : Word)
  /-- CALL NZ,n16 (C4, R257) -/
  | callNzN16 (n : Word)
  /-- ADD A,n8 (C6, R164) -/
  | addAN8 (n : Byte)
  /-- JP Z,n16 (CA, R252) -/
  | jpZN16 (n : Word)
  /-- CALL Z,n16 (CC, R257) -/
  | callZN16 (n : Word)
  /-- CALL n16 (CD, R256) -/
  | callN16 (n : Word)
  /-- ADC A,n8 (CE, R167) -/
  | adcAN8 (n : Byte)
  /-- JP NC,n16 (D2, R252) -/
  | jpNcN16 (n : Word)
  /-- ILLEGAL (D3 DB DD E3 E4 EB EC ED F4 FC FD, R277) -/
  | illegal (op : Byte)
  /-- CALL NC,n16 (D4, R257) -/
  | callNcN16 (n : Word)
  /-- SUB n8 (D6, R170) -/
  | subN8 (n : Byte)
  /-- JP C,n16 (DA, R252) -/
  | jpCN16 (n : Word)
  /-- CALL C,n16 (DC, R257) -/
  | callCN16 (n : Word)
  /-- SBC A,n8 (DE, R173) -/
  | sbcAN8 (n : Byte)
  /-- LDH (n8),A (E0, R144) -/
  | ldhAtN8A (n : Byte)
  /-- AND n8 (E6, R176) -/
  | andN8 (n : Byte)
  /-- ADD SP,e8 (E8, R203) -/
  | addSpE8 (e : Byte)
  /-- LD (n16),A (EA, R140) -/
  | ldAtN16A (n : Word)
  /-- XOR n8 (EE, R179) -/
  | xorN8 (n : Byte)
  /-- LDH A,(n8) (F0, R143) -/
  | ldhAAtN8 (n : Byte)
  /-- OR n8 (F6, R182) -/
  | orN8 (n : Byte)
  /-- LD HL,SP+e8 (F8, R155) -/
  | ldHlSpE8 (e : Byte)
  /-- LD A,(n16) (FA, R139) -/
  | ldAAtN16 (n : Word)
  /-- CP n8 (FE, R185) -/
  | cpN8 (n : Byte)
  /-- NOP (00, R271) -/
  | nop
  /-- LD (BC),A (02, R137) -/
  | ldAtBcA
  /-- INC BC (03, R201) -/
  | incBc
  /-- INC B (04, R186) -/
  | incB
  /-- DEC B (05, R188) -/
  | decB
  /-- RLCA (07, R210) -/
  | rlca
  /-- ADD HL,BC (09, R200) -/
  | addHlBc
  /-- LD A,(BC) (0A, R135) -/
  | ldAAtBc
  /-- DEC BC (0B, R202) -/
  | decBc
  /-- INC C (0C, R186) -/
  | incC
  /-- DEC C (0D, R188) -/
  | decC
  /-- RRCA (0F, R211) -/
  | rrca
  /-- STOP (10, R273) -/
  | stop
  /-- LD (DE),A (12, R138) -/
  | ldAtDeA
  /-- INC DE (13, R201) -/
  | incDe
  /-- INC D (14, R186) -/
  | incD
  /-- DEC D (15, R188) -/
  | decD
  /-- RLA (17, R212) -/
  | rla
  /-- ADD HL,DE (19, R200) -/
  | addHlDe
  /-- LD A,(DE) (1A, R136) -/
  | ldAAtDe
  /-- DEC DE (1B, R202) -/
  | decDe
  /-- INC E (1C, R186) -/
  | incE
  /-- DEC E (1D, R188) -/
  | decE
  /-- RRA (1F, R213) -/
  | rra
  /-- LD (HL+),A (22, R148) -/
  | ldAtHlIncA
  /-- INC HL (23, R201) -/
  | incHl
  /-- INC H (24, R186) -/
  | incH
  /-- DEC H (25, R188) -/
  | decH
  /-- DAA (27, R190) -/
  | daa
  /-- ADD HL,HL (29, R200) -/
  | addHlHl
  /-- LD A,(HL+) (2A, R147) -/
  | ldAAtHlInc
  /-- DEC HL (2B, R202) -/
  | decHl
  /-- INC L (2C, R186) -/
  | incL
  /-- DEC L (2D, R188) -/
  | decL
  /-- CPL (2F, R191) -/
  | cpl
  /-- LD (HL-),A (32, R146) -/
  | ldAtHlDecA
  /-- INC SP (33, R201) -/
  | incSp
  /-- INC (HL) (34, R187) -/
  | incAtHl
  /-- DEC (HL) (35, R189) -/
  | decAtHl
  /-- SCF (37, R192) -/
  | scf
  /-- ADD HL,SP (39, R200) -/
  | addHlSp
  /-- LD A,(HL-) (3A, R145) -/
  | ldAAtHlDec
  /-- DEC SP (3B, R202) -/
  | decSp
  /-- INC A (3C, R186) -/
  | incA
  /-- DEC A (3D, R188) -/
  | decA
  /-- CCF (3F, R193) -/
  | ccf
  /-- LD B,B (40, R130) -/
  | ldBB
  /-- LD B,C (41, R130) -/
  | ldBC
  /-- LD B,D (42, R130) -/
  | ldBD
  /-- LD B,E (43, R130) -/
  | ldBE
  /-- LD B,H (44, R130) -/
  | ldBH
  /-- LD B,L (45, R130) -/
  | ldBL
  /-- LD B,(HL) (46, R132) -/
  | ldBAtHl
  /-- LD B,A (47, R130) -/
  | ldBA
  /-- LD C,B (48, R130) -/
  | ldCB
  /-- LD C,C (49, R130) -/
  | ldCC
  /-- LD C,D (4A, R130) -/
  | ldCD
  /-- LD C,E (4B, R130) -/
  | ldCE
  /-- LD C,H (4C, R130) -/
  | ldCH
  /-- LD C,L (4D, R130) -/
  | ldCL
  /-- LD C,(HL) (4E, R132) -/
  | ldCAtHl
  /-- LD C,A (4F, R130) -/
  | ldCA
  /-- LD D,B (50, R130) -/
  | ldDB
  /-- LD D,C (51, R130) -/
  | ldDC
  /-- LD D,D (52, R130) -/
  | ldDD
  /-- LD D,E (53, R130) -/
  | ldDE
  /-- LD D,H (54, R130) -/
  | ldDH
  /-- LD D,L (55, R130) -/
  | ldDL
  /-- LD D,(HL) (56, R132) -/
  | ldDAtHl
  /-- LD D,A (57, R130) -/
  | ldDA
  /-- LD E,B (58, R130) -/
  | ldEB
  /-- LD E,C (59, R130) -/
  | ldEC
  /-- LD E,D (5A, R130) -/
  | ldED
  /-- LD E,E (5B, R130) -/
  | ldEE
  /-- LD E,H (5C, R130) -/
  | ldEH
  /-- LD E,L (5D, R130) -/
  | ldEL
  /-- LD E,(HL) (5E, R132) -/
  | ldEAtHl
  /-- LD E,A (5F, R130) -/
  | ldEA
  /-- LD H,B (60, R130) -/
  | ldHB
  /-- LD H,C (61, R130) -/
  | ldHC
  /-- LD H,D (62, R130) -/
  | ldHD
  /-- LD H,E (63, R130) -/
  | ldHE
  /-- LD H,H (64, R130) -/
  | ldHH
  /-- LD H,L (65, R130) -/
  | ldHL
  /-- LD H,(HL) (66, R132) -/
  | ldHAtHl
  /-- LD H,A (67, R130) -/
  | ldHA
  /-- LD L,B (68, R130) -/
  | ldLB
  /-- LD L,C (69, R130) -/
  | ldLC
  /-- LD L,D (6A, R130) -/
  | ldLD
  /-- LD L,E (6B, R130) -/
  | ldLE
  /-- LD L,H (6C, R130) -/
  | ldLH
  /-- LD L,L (6D, R130) -/
  | ldLL
  /-- LD L,(HL) (6E, R132) -/
  | ldLAtHl
  /-- LD L,A (6F, R130) -/
  | ldLA
  /-- LD (HL),B (70, R133) -/
  | ldAtHlB
  /-- LD (HL),C (71, R133) -/
  | ldAtHlC
  /-- LD (HL),D (72, R133) -/
  | ldAtHlD
  /-- LD (HL),E (73, R133) -/
  | ldAtHlE
  /-- LD (HL),H (74, R133) -/
  | ldAtHlH
  /-- LD (HL),L (75, R133) -/
  | ldAtHlL
  /-- HALT (76, R272) -/
  | halt
  /-- LD (HL),A (77, R133) -/
  | ldAtHlA
  /-- LD A,B (78, R130) -/
  | ldAB
  /-- LD A,C (79, R130) -/
  | ldAC
  /-- LD A,D (7A, R130) -/
  | ldAD
  /-- LD A,E (7B, R130) -/
  | ldAE
  /-- LD A,H (7C, R130) -/
  | ldAH
  /-- LD A,L (7D, R130) -/
  | ldAL
  /-- LD A,(HL) (7E, R132) -/
  | ldAAtHl
  /-- LD A,A (7F, R130) -/
  | ldAA
  /-- ADD A,B (80, R162) -/
  | addAB
  /-- ADD A,C (81, R162) -/
  | addAC
  /-- ADD A,D (82, R162) -/
  | addAD
  /-- ADD A,E (83, R162) -/
  | addAE
  /-- ADD A,H (84, R162) -/
  | addAH
  /-- ADD A,L (85, R162) -/
  | addAL
  /-- ADD A,(HL) (86, R163) -/
  | addAAtHl
  /-- ADD A,A (87, R162) -/
  | addAA
  /-- ADC A,B (88, R165) -/
  | adcAB
  /-- ADC A,C (89, R165) -/
  | adcAC
  /-- ADC A,D (8A, R165) -/
  | adcAD
  /-- ADC A,E (8B, R165) -/
  | adcAE
  /-- ADC A,H (8C, R165) -/
  | adcAH
  /-- ADC A,L (8D, R165) -/
  | adcAL
  /-- ADC A,(HL) (8E, R166) -/
  | adcAAtHl
  /-- ADC A,A (8F, R165) -/
  | adcAA
  /-- SUB B (90, R168) -/
  | subB
  /-- SUB C (91, R168) -/
  | subC
  /-- SUB D (92, R168) -/
  | subD
  /-- SUB E (93, R168) -/
  | subE
  /-- SUB H (94, R168) -/
  | subH
  /-- SUB L (95, R168) -/
  | subL
  /-- SUB (HL) (96, R169) -/
  | subAtHl
  /-- SUB A (97, R168) -/
  | subA
  /-- SBC A,B (98, R171) -/
  | sbcAB
  /-- SBC A,C (99, R171) -/
  | sbcAC
  /-- SBC A,D (9A, R171) -/
  | sbcAD
  /-- SBC A,E (9B, R171) -/
  | sbcAE
  /-- SBC A,H (9C, R171) -/
  | sbcAH
  /-- SBC A,L (9D, R171) -/
  | sbcAL
  /-- SBC A,(HL) (9E, R172) -/
  | sbcAAtHl
  /-- SBC A,A (9F, R171) -/
  | sbcAA
  /-- AND B (A0, R174) -/
  | andB
  /-- AND C (A1, R174) -/
  | andC
  /-- AND D (A2, R174) -/
  | andD
  /-- AND E (A3, R174) -/
  | andE
  /-- AND H (A4, R174) -/
  | andH
  /-- AND L (A5, R174) -/
  | andL
  /-- AND (HL) (A6, R175) -/
  | andAtHl
  /-- AND A (A7, R174) -/
  | andA
  /-- XOR B (A8, R177) -/
  | xorB
  /-- XOR C (A9, R177) -/
  | xorC
  /-- XOR D (AA, R177) -/
  | xorD
  /-- XOR E (AB, R177) -/
  | xorE
  /-- XOR H (AC, R177) -/
  | xorH
  /-- XOR L (AD, R177) -/
  | xorL
  /-- XOR (HL) (AE, R178) -/
  | xorAtHl
  /-- XOR A (AF, R177) -/
  | xorA
  /-- OR B (B0, R180) -/
  | orB
  /-- OR C (B1, R180) -/
  | orC
  /-- OR D (B2, R180) -/
  | orD
  /-- OR E (B3, R180) -/
  | orE
  /-- OR H (B4, R180) -/
  | orH
  /-- OR L (B5, R180) -/
  | orL
  /-- OR (HL) (B6, R181) -/
  | orAtHl
  /-- OR A (B7, R180) -/
  | orA
  /-- CP B (B8, R183) -/
  | cpB
  /-- CP C (B9, R183) -/
  | cpC
  /-- CP D (BA, R183) -/
  | cpD
  /-- CP E (BB, R183) -/
  | cpE
  /-- CP H (BC, R183) -/
  | cpH
  /-- CP L (BD, R183) -/
  | cpL
  /-- CP (HL) (BE, R184) -/
  | cpAtHl
  /-- CP A (BF, R183) -/
  | cpA
  /-- RET NZ (C0, R259) -/
  | retNz
  /-- POP BC (C1, R154) -/
  | popBc
  /-- PUSH BC (C5, R153) -/
  | pushBc
  /-- RST 00H (C7, R261) -/
  | rst00
  /-- RET Z (C8, R259) -/
  | retZ
  /-- RET (C9, R258) -/
  | ret
  /-- PREFIX CB (CB, R276) -/
  | prefixCb
  /-- RST 08H (CF, R261) -/
  | rst08
  /-- RET NC (D0, R259) -/
  | retNc
  /-- POP DE (D1, R154) -/
  | popDe
  /-- PUSH DE (D5, R153) -/
  | pushDe
  /-- RST 10H (D7, R261) -/
  | rst10
  /-- RET C (D8, R259) -/
  | retC
  /-- RETI (D9, R260) -/
  | reti
  /-- RST 18H (DF, R261) -/
  | rst18
  /-- POP HL (E1, R154) -/
  | popHl
  /-- LDH (C),A (E2, R142) -/
  | ldhAtCA
  /-- PUSH HL (E5, R153) -/
  | pushHl
  /-- RST 20H (E7, R261) -/
  | rst20
  /-- JP HL (E9, R253) -/
  | jpHl
  /-- RST 28H (EF, R261) -/
  | rst28
  /-- POP AF (F1, R154) -/
  | popAf
  /-- LDH A,(C) (F2, R141) -/
  | ldhAAtC
  /-- DI (F3, R274) -/
  | di
  /-- PUSH AF (F5, R153) -/
  | pushAf
  /-- RST 30H (F7, R261) -/
  | rst30
  /-- LD SP,HL (F9, R152) -/
  | ldSpHl
  /-- EI (FB, R275) -/
  | ei
  /-- RST 38H (FF, R261) -/
  | rst38
  /-- RLC B (CB00, R215) -/
  | rlcB
  /-- RLC C (CB01, R215) -/
  | rlcC
  /-- RLC D (CB02, R215) -/
  | rlcD
  /-- RLC E (CB03, R215) -/
  | rlcE
  /-- RLC H (CB04, R215) -/
  | rlcH
  /-- RLC L (CB05, R215) -/
  | rlcL
  /-- RLC (HL) (CB06, R216) -/
  | rlcAtHl
  /-- RLC A (CB07, R215) -/
  | rlcA
  /-- RRC B (CB08, R217) -/
  | rrcB
  /-- RRC C (CB09, R217) -/
  | rrcC
  /-- RRC D (CB0A, R217) -/
  | rrcD
  /-- RRC E (CB0B, R217) -/
  | rrcE
  /-- RRC H (CB0C, R217) -/
  | rrcH
  /-- RRC L (CB0D, R217) -/
  | rrcL
  /-- RRC (HL) (CB0E, R218) -/
  | rrcAtHl
  /-- RRC A (CB0F, R217) -/
  | rrcA
  /-- RL B (CB10, R219) -/
  | rlB
  /-- RL C (CB11, R219) -/
  | rlC
  /-- RL D (CB12, R219) -/
  | rlD
  /-- RL E (CB13, R219) -/
  | rlE
  /-- RL H (CB14, R219) -/
  | rlH
  /-- RL L (CB15, R219) -/
  | rlL
  /-- RL (HL) (CB16, R220) -/
  | rlAtHl
  /-- RL A (CB17, R219) -/
  | rlA
  /-- RR B (CB18, R221) -/
  | rrB
  /-- RR C (CB19, R221) -/
  | rrC
  /-- RR D (CB1A, R221) -/
  | rrD
  /-- RR E (CB1B, R221) -/
  | rrE
  /-- RR H (CB1C, R221) -/
  | rrH
  /-- RR L (CB1D, R221) -/
  | rrL
  /-- RR (HL) (CB1E, R222) -/
  | rrAtHl
  /-- RR A (CB1F, R221) -/
  | rrA
  /-- SLA B (CB20, R223) -/
  | slaB
  /-- SLA C (CB21, R223) -/
  | slaC
  /-- SLA D (CB22, R223) -/
  | slaD
  /-- SLA E (CB23, R223) -/
  | slaE
  /-- SLA H (CB24, R223) -/
  | slaH
  /-- SLA L (CB25, R223) -/
  | slaL
  /-- SLA (HL) (CB26, R224) -/
  | slaAtHl
  /-- SLA A (CB27, R223) -/
  | slaA
  /-- SRA B (CB28, R225) -/
  | sraB
  /-- SRA C (CB29, R225) -/
  | sraC
  /-- SRA D (CB2A, R225) -/
  | sraD
  /-- SRA E (CB2B, R225) -/
  | sraE
  /-- SRA H (CB2C, R225) -/
  | sraH
  /-- SRA L (CB2D, R225) -/
  | sraL
  /-- SRA (HL) (CB2E, R226) -/
  | sraAtHl
  /-- SRA A (CB2F, R225) -/
  | sraA
  /-- SWAP B (CB30, R227) -/
  | swapB
  /-- SWAP C (CB31, R227) -/
  | swapC
  /-- SWAP D (CB32, R227) -/
  | swapD
  /-- SWAP E (CB33, R227) -/
  | swapE
  /-- SWAP H (CB34, R227) -/
  | swapH
  /-- SWAP L (CB35, R227) -/
  | swapL
  /-- SWAP (HL) (CB36, R228) -/
  | swapAtHl
  /-- SWAP A (CB37, R227) -/
  | swapA
  /-- SRL B (CB38, R229) -/
  | srlB
  /-- SRL C (CB39, R229) -/
  | srlC
  /-- SRL D (CB3A, R229) -/
  | srlD
  /-- SRL E (CB3B, R229) -/
  | srlE
  /-- SRL H (CB3C, R229) -/
  | srlH
  /-- SRL L (CB3D, R229) -/
  | srlL
  /-- SRL (HL) (CB3E, R230) -/
  | srlAtHl
  /-- SRL A (CB3F, R229) -/
  | srlA
  /-- BIT 0,B (CB40, R231) -/
  | bit0B
  /-- BIT 0,C (CB41, R231) -/
  | bit0C
  /-- BIT 0,D (CB42, R231) -/
  | bit0D
  /-- BIT 0,E (CB43, R231) -/
  | bit0E
  /-- BIT 0,H (CB44, R231) -/
  | bit0H
  /-- BIT 0,L (CB45, R231) -/
  | bit0L
  /-- BIT 0,(HL) (CB46, R232) -/
  | bit0AtHl
  /-- BIT 0,A (CB47, R231) -/
  | bit0A
  /-- BIT 1,B (CB48, R231) -/
  | bit1B
  /-- BIT 1,C (CB49, R231) -/
  | bit1C
  /-- BIT 1,D (CB4A, R231) -/
  | bit1D
  /-- BIT 1,E (CB4B, R231) -/
  | bit1E
  /-- BIT 1,H (CB4C, R231) -/
  | bit1H
  /-- BIT 1,L (CB4D, R231) -/
  | bit1L
  /-- BIT 1,(HL) (CB4E, R232) -/
  | bit1AtHl
  /-- BIT 1,A (CB4F, R231) -/
  | bit1A
  /-- BIT 2,B (CB50, R231) -/
  | bit2B
  /-- BIT 2,C (CB51, R231) -/
  | bit2C
  /-- BIT 2,D (CB52, R231) -/
  | bit2D
  /-- BIT 2,E (CB53, R231) -/
  | bit2E
  /-- BIT 2,H (CB54, R231) -/
  | bit2H
  /-- BIT 2,L (CB55, R231) -/
  | bit2L
  /-- BIT 2,(HL) (CB56, R232) -/
  | bit2AtHl
  /-- BIT 2,A (CB57, R231) -/
  | bit2A
  /-- BIT 3,B (CB58, R231) -/
  | bit3B
  /-- BIT 3,C (CB59, R231) -/
  | bit3C
  /-- BIT 3,D (CB5A, R231) -/
  | bit3D
  /-- BIT 3,E (CB5B, R231) -/
  | bit3E
  /-- BIT 3,H (CB5C, R231) -/
  | bit3H
  /-- BIT 3,L (CB5D, R231) -/
  | bit3L
  /-- BIT 3,(HL) (CB5E, R232) -/
  | bit3AtHl
  /-- BIT 3,A (CB5F, R231) -/
  | bit3A
  /-- BIT 4,B (CB60, R231) -/
  | bit4B
  /-- BIT 4,C (CB61, R231) -/
  | bit4C
  /-- BIT 4,D (CB62, R231) -/
  | bit4D
  /-- BIT 4,E (CB63, R231) -/
  | bit4E
  /-- BIT 4,H (CB64, R231) -/
  | bit4H
  /-- BIT 4,L (CB65, R231) -/
  | bit4L
  /-- BIT 4,(HL) (CB66, R232) -/
  | bit4AtHl
  /-- BIT 4,A (CB67, R231) -/
  | bit4A
  /-- BIT 5,B (CB68, R231) -/
  | bit5B
  /-- BIT 5,C (CB69, R231) -/
  | bit5C
  /-- BIT 5,D (CB6A, R231) -/
  | bit5D
  /-- BIT 5,E (CB6B, R231) -/
  | bit5E
  /-- BIT 5,H (CB6C, R231) -/
  | bit5H
  /-- BIT 5,L (CB6D, R231) -/
  | bit5L
  /-- BIT 5,(HL) (CB6E, R232) -/
  | bit5AtHl
  /-- BIT 5,A (CB6F, R231) -/
  | bit5A
  /-- BIT 6,B (CB70, R231) -/
  | bit6B
  /-- BIT 6,C (CB71, R231) -/
  | bit6C
  /-- BIT 6,D (CB72, R231) -/
  | bit6D
  /-- BIT 6,E (CB73, R231) -/
  | bit6E
  /-- BIT 6,H (CB74, R231) -/
  | bit6H
  /-- BIT 6,L (CB75, R231) -/
  | bit6L
  /-- BIT 6,(HL) (CB76, R232) -/
  | bit6AtHl
  /-- BIT 6,A (CB77, R231) -/
  | bit6A
  /-- BIT 7,B (CB78, R231) -/
  | bit7B
  /-- BIT 7,C (CB79, R231) -/
  | bit7C
  /-- BIT 7,D (CB7A, R231) -/
  | bit7D
  /-- BIT 7,E (CB7B, R231) -/
  | bit7E
  /-- BIT 7,H (CB7C, R231) -/
  | bit7H
  /-- BIT 7,L (CB7D, R231) -/
  | bit7L
  /-- BIT 7,(HL) (CB7E, R232) -/
  | bit7AtHl
  /-- BIT 7,A (CB7F, R231) -/
  | bit7A
  /-- RES 0,B (CB80, R233) -/
  | res0B
  /-- RES 0,C (CB81, R233) -/
  | res0C
  /-- RES 0,D (CB82, R233) -/
  | res0D
  /-- RES 0,E (CB83, R233) -/
  | res0E
  /-- RES 0,H (CB84, R233) -/
  | res0H
  /-- RES 0,L (CB85, R233) -/
  | res0L
  /-- RES 0,(HL) (CB86, R234) -/
  | res0AtHl
  /-- RES 0,A (CB87, R233) -/
  | res0A
  /-- RES 1,B (CB88, R233) -/
  | res1B
  /-- RES 1,C (CB89, R233) -/
  | res1C
  /-- RES 1,D (CB8A, R233) -/
  | res1D
  /-- RES 1,E (CB8B, R233) -/
  | res1E
  /-- RES 1,H (CB8C, R233) -/
  | res1H
  /-- RES 1,L (CB8D, R233) -/
  | res1L
  /-- RES 1,(HL) (CB8E, R234) -/
  | res1AtHl
  /-- RES 1,A (CB8F, R233) -/
  | res1A
  /-- RES 2,B (CB90, R233) -/
  | res2B
  /-- RES 2,C (CB91, R233) -/
  | res2C
  /-- RES 2,D (CB92, R233) -/
  | res2D
  /-- RES 2,E (CB93, R233) -/
  | res2E
  /-- RES 2,H (CB94, R233) -/
  | res2H
  /-- RES 2,L (CB95, R233) -/
  | res2L
  /-- RES 2,(HL) (CB96, R234) -/
  | res2AtHl
  /-- RES 2,A (CB97, R233) -/
  | res2A
  /-- RES 3,B (CB98, R233) -/
  | res3B
  /-- RES 3,C (CB99, R233) -/
  | res3C
  /-- RES 3,D (CB9A, R233) -/
  | res3D
  /-- RES 3,E (CB9B, R233) -/
  | res3E
  /-- RES 3,H (CB9C, R233) -/
  | res3H
  /-- RES 3,L (CB9D, R233) -/
  | res3L
  /-- RES 3,(HL) (CB9E, R234) -/
  | res3AtHl
  /-- RES 3,A (CB9F, R233) -/
  | res3A
  /-- RES 4,B (CBA0, R233) -/
  | res4B
  /-- RES 4,C (CBA1, R233) -/
  | res4C
  /-- RES 4,D (CBA2, R233) -/
  | res4D
  /-- RES 4,E (CBA3, R233) -/
  | res4E
  /-- RES 4,H (CBA4, R233) -/
  | res4H
  /-- RES 4,L (CBA5, R233) -/
  | res4L
  /-- RES 4,(HL) (CBA6, R234) -/
  | res4AtHl
  /-- RES 4,A (CBA7, R233) -/
  | res4A
  /-- RES 5,B (CBA8, R233) -/
  | res5B
  /-- RES 5,C (CBA9, R233) -/
  | res5C
  /-- RES 5,D (CBAA, R233) -/
  | res5D
  /-- RES 5,E (CBAB, R233) -/
  | res5E
  /-- RES 5,H (CBAC, R233) -/
  | res5H
  /-- RES 5,L (CBAD, R233) -/
  | res5L
  /-- RES 5,(HL) (CBAE, R234) -/
  | res5AtHl
  /-- RES 5,A (CBAF, R233) -/
  | res5A
  /-- RES 6,B (CBB0, R233) -/
  | res6B
  /-- RES 6,C (CBB1, R233) -/
  | res6C
  /-- RES 6,D (CBB2, R233) -/
  | res6D
  /-- RES 6,E (CBB3, R233) -/
  | res6E
  /-- RES 6,H (CBB4, R233) -/
  | res6H
  /-- RES 6,L (CBB5, R233) -/
  | res6L
  /-- RES 6,(HL) (CBB6, R234) -/
  | res6AtHl
  /-- RES 6,A (CBB7, R233) -/
  | res6A
  /-- RES 7,B (CBB8, R233) -/
  | res7B
  /-- RES 7,C (CBB9, R233) -/
  | res7C
  /-- RES 7,D (CBBA, R233) -/
  | res7D
  /-- RES 7,E (CBBB, R233) -/
  | res7E
  /-- RES 7,H (CBBC, R233) -/
  | res7H
  /-- RES 7,L (CBBD, R233) -/
  | res7L
  /-- RES 7,(HL) (CBBE, R234) -/
  | res7AtHl
  /-- RES 7,A (CBBF, R233) -/
  | res7A
  /-- SET 0,B (CBC0, R235) -/
  | set0B
  /-- SET 0,C (CBC1, R235) -/
  | set0C
  /-- SET 0,D (CBC2, R235) -/
  | set0D
  /-- SET 0,E (CBC3, R235) -/
  | set0E
  /-- SET 0,H (CBC4, R235) -/
  | set0H
  /-- SET 0,L (CBC5, R235) -/
  | set0L
  /-- SET 0,(HL) (CBC6, R236) -/
  | set0AtHl
  /-- SET 0,A (CBC7, R235) -/
  | set0A
  /-- SET 1,B (CBC8, R235) -/
  | set1B
  /-- SET 1,C (CBC9, R235) -/
  | set1C
  /-- SET 1,D (CBCA, R235) -/
  | set1D
  /-- SET 1,E (CBCB, R235) -/
  | set1E
  /-- SET 1,H (CBCC, R235) -/
  | set1H
  /-- SET 1,L (CBCD, R235) -/
  | set1L
  /-- SET 1,(HL) (CBCE, R236) -/
  | set1AtHl
  /-- SET 1,A (CBCF, R235) -/
  | set1A
  /-- SET 2,B (CBD0, R235) -/
  | set2B
  /-- SET 2,C (CBD1, R235) -/
  | set2C
  /-- SET 2,D (CBD2, R235) -/
  | set2D
  /-- SET 2,E (CBD3, R235) -/
  | set2E
  /-- SET 2,H (CBD4, R235) -/
  | set2H
  /-- SET 2,L (CBD5, R235) -/
  | set2L
  /-- SET 2,(HL) (CBD6, R236) -/
  | set2AtHl
  /-- SET 2,A (CBD7, R235) -/
  | set2A
  /-- SET 3,B (CBD8, R235) -/
  | set3B
  /-- SET 3,C (CBD9, R235) -/
  | set3C
  /-- SET 3,D (CBDA, R235) -/
  | set3D
  /-- SET 3,E (CBDB, R235) -/
  | set3E
  /-- SET 3,H (CBDC, R235) -/
  | set3H
  /-- SET 3,L (CBDD, R235) -/
  | set3L
  /-- SET 3,(HL) (CBDE, R236) -/
  | set3AtHl
  /-- SET 3,A (CBDF, R235) -/
  | set3A
  /-- SET 4,B (CBE0, R235) -/
  | set4B
  /-- SET 4,C (CBE1, R235) -/
  | set4C
  /-- SET 4,D (CBE2, R235) -/
  | set4D
  /-- SET 4,E (CBE3, R235) -/
  | set4E
  /-- SET 4,H (CBE4, R235) -/
  | set4H
  /-- SET 4,L (CBE5, R235) -/
  | set4L
  /-- SET 4,(HL) (CBE6, R236) -/
  | set4AtHl
  /-- SET 4,A (CBE7, R235) -/
  | set4A
  /-- SET 5,B (CBE8, R235) -/
  | set5B
  /-- SET 5,C (CBE9, R235) -/
  | set5C
  /-- SET 5,D (CBEA, R235) -/
  | set5D
  /-- SET 5,E (CBEB, R235) -/
  | set5E
  /-- SET 5,H (CBEC, R235) -/
  | set5H
  /-- SET 5,L (CBED, R235) -/
  | set5L
  /-- SET 5,(HL) (CBEE, R236) -/
  | set5AtHl
  /-- SET 5,A (CBEF, R235) -/
  | set5A
  /-- SET 6,B (CBF0, R235) -/
  | set6B
  /-- SET 6,C (CBF1, R235) -/
  | set6C
  /-- SET 6,D (CBF2, R235) -/
  | set6D
  /-- SET 6,E (CBF3, R235) -/
  | set6E
  /-- SET 6,H (CBF4, R235) -/
  | set6H
  /-- SET 6,L (CBF5, R235) -/
  | set6L
  /-- SET 6,(HL) (CBF6, R236) -/
  | set6AtHl
  /-- SET 6,A (CBF7, R235) -/
  | set6A
  /-- SET 7,B (CBF8, R235) -/
  | set7B
  /-- SET 7,C (CBF9, R235) -/
  | set7C
  /-- SET 7,D (CBFA, R235) -/
  | set7D
  /-- SET 7,E (CBFB, R235) -/
  | set7E
  /-- SET 7,H (CBFC, R235) -/
  | set7H
  /-- SET 7,L (CBFD, R235) -/
  | set7L
  /-- SET 7,(HL) (CBFE, R236) -/
  | set7AtHl
  /-- SET 7,A (CBFF, R235) -/
  | set7A
  deriving DecidableEq, Repr

end Sys2Proof
end

