-- ==== Sys2Proof/WellFormed.lean ====
section
/-! DEFINITION. Which instructions are well formed. Every operand value of a populated opcode is defined (R112, R361),
so the one check is on the byte that an ILLEGAL row holds. -/

namespace Sys2Proof

/-- The 11 first-table values with no entry (R111). -/
def illegalOpcodes : List Byte := [0xD3, 0xDB, 0xDD, 0xE3, 0xE4, 0xEB, 0xEC, 0xED, 0xF4, 0xFC, 0xFD]

/-- An ILLEGAL instruction holds one of the 11 bytes (R111, R277); every other instruction is well formed. -/
def Instr.wellFormed : Instr → Bool
  | .illegal op => illegalOpcodes.contains op
  | _ => true

end Sys2Proof
end

