-- ==== Sys2Proof/Decode.lean ====
section
/-! DEFINITION. The decoder, total on any bytes, and after it the encoder, both written from the opcode map of
spec/30_encoding.md R107 to R109 and spec/opcode_table.json; then the instruction families of the field tables R103. -/

namespace Sys2Proof

/-- Why a byte string is no instruction: it ends before its operand bytes do (R101). No other byte string is refused:
the first table answers for all 256 opcodes (its 11 empty entries are the ILLEGAL rows, R116), the second too. -/
inductive DecodeError where
  | truncated
  deriving DecidableEq, Repr

/-- A slot of the first table, by how the rest of the instruction is found (R100): nothing more (`op`), a byte (`n8`),
a word, low byte first (`n16`), a byte that is not looked at (`skip`, STOP, R273), the second table (`cb`, R113). -/
inductive Entry where
  | op (i : Instr)
  | n8 (k : Byte → Instr)
  | n16 (k : Word → Instr)
  | skip (i : Instr)
  | cb

/-- The row of an opcode in its table: its high digit. -/
def hiNibble (op : Byte) : Fin 16 := ⟨op.toNat / 16, by have := op.isLt; omega⟩

/-- The column of an opcode in its table: its low digit. -/
def loNibble (op : Byte) : Fin 16 := ⟨op.toNat % 16, by omega⟩

/-- Row 0x of the first table (R108). -/
def firstRow0 : Vector Entry 16 :=
  #v[.op .nop, .n16 .ldBcN16, .op .ldAtBcA, .op .incBc, .op .incB, .op .decB, .n8 .ldBN8, .op .rlca,
   .n16 .ldAtN16Sp, .op .addHlBc, .op .ldAAtBc, .op .decBc, .op .incC, .op .decC, .n8 .ldCN8, .op .rrca]

/-- Row 1x of the first table (R108). -/
def firstRow1 : Vector Entry 16 :=
  #v[.skip .stop, .n16 .ldDeN16, .op .ldAtDeA, .op .incDe, .op .incD, .op .decD, .n8 .ldDN8, .op .rla,
   .n8 .jrE8, .op .addHlDe, .op .ldAAtDe, .op .decDe, .op .incE, .op .decE, .n8 .ldEN8, .op .rra]

/-- Row 2x of the first table (R108). -/
def firstRow2 : Vector Entry 16 :=
  #v[.n8 .jrNzE8, .n16 .ldHlN16, .op .ldAtHlIncA, .op .incHl, .op .incH, .op .decH, .n8 .ldHN8, .op .daa,
   .n8 .jrZE8, .op .addHlHl, .op .ldAAtHlInc, .op .decHl, .op .incL, .op .decL, .n8 .ldLN8, .op .cpl]

/-- Row 3x of the first table (R108). -/
def firstRow3 : Vector Entry 16 :=
  #v[.n8 .jrNcE8, .n16 .ldSpN16, .op .ldAtHlDecA, .op .incSp, .op .incAtHl, .op .decAtHl, .n8 .ldAtHlN8,
   .op .scf, .n8 .jrCE8, .op .addHlSp, .op .ldAAtHlDec, .op .decSp, .op .incA, .op .decA, .n8 .ldAN8,
   .op .ccf]

/-- Row 4x of the first table (R108). -/
def firstRow4 : Vector Entry 16 :=
  #v[.op .ldBB, .op .ldBC, .op .ldBD, .op .ldBE, .op .ldBH, .op .ldBL, .op .ldBAtHl, .op .ldBA, .op .ldCB,
   .op .ldCC, .op .ldCD, .op .ldCE, .op .ldCH, .op .ldCL, .op .ldCAtHl, .op .ldCA]

/-- Row 5x of the first table (R108). -/
def firstRow5 : Vector Entry 16 :=
  #v[.op .ldDB, .op .ldDC, .op .ldDD, .op .ldDE, .op .ldDH, .op .ldDL, .op .ldDAtHl, .op .ldDA, .op .ldEB,
   .op .ldEC, .op .ldED, .op .ldEE, .op .ldEH, .op .ldEL, .op .ldEAtHl, .op .ldEA]

/-- Row 6x of the first table (R108). -/
def firstRow6 : Vector Entry 16 :=
  #v[.op .ldHB, .op .ldHC, .op .ldHD, .op .ldHE, .op .ldHH, .op .ldHL, .op .ldHAtHl, .op .ldHA, .op .ldLB,
   .op .ldLC, .op .ldLD, .op .ldLE, .op .ldLH, .op .ldLL, .op .ldLAtHl, .op .ldLA]

/-- Row 7x of the first table (R108). -/
def firstRow7 : Vector Entry 16 :=
  #v[.op .ldAtHlB, .op .ldAtHlC, .op .ldAtHlD, .op .ldAtHlE, .op .ldAtHlH, .op .ldAtHlL, .op .halt,
   .op .ldAtHlA, .op .ldAB, .op .ldAC, .op .ldAD, .op .ldAE, .op .ldAH, .op .ldAL, .op .ldAAtHl, .op .ldAA]

/-- Row 8x of the first table (R108). -/
def firstRow8 : Vector Entry 16 :=
  #v[.op .addAB, .op .addAC, .op .addAD, .op .addAE, .op .addAH, .op .addAL, .op .addAAtHl, .op .addAA,
   .op .adcAB, .op .adcAC, .op .adcAD, .op .adcAE, .op .adcAH, .op .adcAL, .op .adcAAtHl, .op .adcAA]

/-- Row 9x of the first table (R108). -/
def firstRow9 : Vector Entry 16 :=
  #v[.op .subB, .op .subC, .op .subD, .op .subE, .op .subH, .op .subL, .op .subAtHl, .op .subA, .op .sbcAB,
   .op .sbcAC, .op .sbcAD, .op .sbcAE, .op .sbcAH, .op .sbcAL, .op .sbcAAtHl, .op .sbcAA]

/-- Row Ax of the first table (R108). -/
def firstRowA : Vector Entry 16 :=
  #v[.op .andB, .op .andC, .op .andD, .op .andE, .op .andH, .op .andL, .op .andAtHl, .op .andA, .op .xorB,
   .op .xorC, .op .xorD, .op .xorE, .op .xorH, .op .xorL, .op .xorAtHl, .op .xorA]

/-- Row Bx of the first table (R108). -/
def firstRowB : Vector Entry 16 :=
  #v[.op .orB, .op .orC, .op .orD, .op .orE, .op .orH, .op .orL, .op .orAtHl, .op .orA, .op .cpB, .op .cpC,
   .op .cpD, .op .cpE, .op .cpH, .op .cpL, .op .cpAtHl, .op .cpA]

/-- Row Cx of the first table (R108). -/
def firstRowC : Vector Entry 16 :=
  #v[.op .retNz, .op .popBc, .n16 .jpNzN16, .n16 .jpN16, .n16 .callNzN16, .op .pushBc, .n8 .addAN8,
   .op .rst00, .op .retZ, .op .ret, .n16 .jpZN16, .cb, .n16 .callZN16, .n16 .callN16, .n8 .adcAN8,
   .op .rst08]

/-- Row Dx of the first table (R108). -/
def firstRowD : Vector Entry 16 :=
  #v[.op .retNc, .op .popDe, .n16 .jpNcN16, .op (.illegal 0xD3), .n16 .callNcN16, .op .pushDe, .n8 .subN8,
   .op .rst10, .op .retC, .op .reti, .n16 .jpCN16, .op (.illegal 0xDB), .n16 .callCN16, .op (.illegal 0xDD),
   .n8 .sbcAN8, .op .rst18]

/-- Row Ex of the first table (R108). -/
def firstRowE : Vector Entry 16 :=
  #v[.n8 .ldhAtN8A, .op .popHl, .op .ldhAtCA, .op (.illegal 0xE3), .op (.illegal 0xE4), .op .pushHl,
   .n8 .andN8, .op .rst20, .n8 .addSpE8, .op .jpHl, .n16 .ldAtN16A, .op (.illegal 0xEB),
   .op (.illegal 0xEC), .op (.illegal 0xED), .n8 .xorN8, .op .rst28]

/-- Row Fx of the first table (R108). -/
def firstRowF : Vector Entry 16 :=
  #v[.n8 .ldhAAtN8, .op .popAf, .op .ldhAAtC, .op .di, .op (.illegal 0xF4), .op .pushAf, .n8 .orN8,
   .op .rst30, .n8 .ldHlSpE8, .op .ldSpHl, .n16 .ldAAtN16, .op .ei, .op (.illegal 0xFC),
   .op (.illegal 0xFD), .n8 .cpN8, .op .rst38]

/-- The first table (R107, R108). -/
def firstTable : Vector (Vector Entry 16) 16 :=
  #v[firstRow0, firstRow1, firstRow2, firstRow3, firstRow4, firstRow5, firstRow6, firstRow7,
    firstRow8, firstRow9, firstRowA, firstRowB, firstRowC, firstRowD, firstRowE, firstRowF]

/-- `Decode(opcode)`: a pure function of the one byte (R278). -/
def firstEntry (op : Byte) : Entry := firstTable[hiNibble op][loNibble op]

/-- Row 0x of the second table (R109). -/
def secondRow0 : Vector Instr 16 :=
  #v[.rlcB, .rlcC, .rlcD, .rlcE, .rlcH, .rlcL, .rlcAtHl, .rlcA, .rrcB, .rrcC, .rrcD, .rrcE, .rrcH, .rrcL,
   .rrcAtHl, .rrcA]

/-- Row 1x of the second table (R109). -/
def secondRow1 : Vector Instr 16 :=
  #v[.rlB, .rlC, .rlD, .rlE, .rlH, .rlL, .rlAtHl, .rlA, .rrB, .rrC, .rrD, .rrE, .rrH, .rrL, .rrAtHl, .rrA]

/-- Row 2x of the second table (R109). -/
def secondRow2 : Vector Instr 16 :=
  #v[.slaB, .slaC, .slaD, .slaE, .slaH, .slaL, .slaAtHl, .slaA, .sraB, .sraC, .sraD, .sraE, .sraH, .sraL,
   .sraAtHl, .sraA]

/-- Row 3x of the second table (R109). -/
def secondRow3 : Vector Instr 16 :=
  #v[.swapB, .swapC, .swapD, .swapE, .swapH, .swapL, .swapAtHl, .swapA, .srlB, .srlC, .srlD, .srlE, .srlH,
   .srlL, .srlAtHl, .srlA]

/-- Row 4x of the second table (R109). -/
def secondRow4 : Vector Instr 16 :=
  #v[.bit0B, .bit0C, .bit0D, .bit0E, .bit0H, .bit0L, .bit0AtHl, .bit0A, .bit1B, .bit1C, .bit1D, .bit1E,
   .bit1H, .bit1L, .bit1AtHl, .bit1A]

/-- Row 5x of the second table (R109). -/
def secondRow5 : Vector Instr 16 :=
  #v[.bit2B, .bit2C, .bit2D, .bit2E, .bit2H, .bit2L, .bit2AtHl, .bit2A, .bit3B, .bit3C, .bit3D, .bit3E,
   .bit3H, .bit3L, .bit3AtHl, .bit3A]

/-- Row 6x of the second table (R109). -/
def secondRow6 : Vector Instr 16 :=
  #v[.bit4B, .bit4C, .bit4D, .bit4E, .bit4H, .bit4L, .bit4AtHl, .bit4A, .bit5B, .bit5C, .bit5D, .bit5E,
   .bit5H, .bit5L, .bit5AtHl, .bit5A]

/-- Row 7x of the second table (R109). -/
def secondRow7 : Vector Instr 16 :=
  #v[.bit6B, .bit6C, .bit6D, .bit6E, .bit6H, .bit6L, .bit6AtHl, .bit6A, .bit7B, .bit7C, .bit7D, .bit7E,
   .bit7H, .bit7L, .bit7AtHl, .bit7A]

/-- Row 8x of the second table (R109). -/
def secondRow8 : Vector Instr 16 :=
  #v[.res0B, .res0C, .res0D, .res0E, .res0H, .res0L, .res0AtHl, .res0A, .res1B, .res1C, .res1D, .res1E,
   .res1H, .res1L, .res1AtHl, .res1A]

/-- Row 9x of the second table (R109). -/
def secondRow9 : Vector Instr 16 :=
  #v[.res2B, .res2C, .res2D, .res2E, .res2H, .res2L, .res2AtHl, .res2A, .res3B, .res3C, .res3D, .res3E,
   .res3H, .res3L, .res3AtHl, .res3A]

/-- Row Ax of the second table (R109). -/
def secondRowA : Vector Instr 16 :=
  #v[.res4B, .res4C, .res4D, .res4E, .res4H, .res4L, .res4AtHl, .res4A, .res5B, .res5C, .res5D, .res5E,
   .res5H, .res5L, .res5AtHl, .res5A]

/-- Row Bx of the second table (R109). -/
def secondRowB : Vector Instr 16 :=
  #v[.res6B, .res6C, .res6D, .res6E, .res6H, .res6L, .res6AtHl, .res6A, .res7B, .res7C, .res7D, .res7E,
   .res7H, .res7L, .res7AtHl, .res7A]

/-- Row Cx of the second table (R109). -/
def secondRowC : Vector Instr 16 :=
  #v[.set0B, .set0C, .set0D, .set0E, .set0H, .set0L, .set0AtHl, .set0A, .set1B, .set1C, .set1D, .set1E,
   .set1H, .set1L, .set1AtHl, .set1A]

/-- Row Dx of the second table (R109). -/
def secondRowD : Vector Instr 16 :=
  #v[.set2B, .set2C, .set2D, .set2E, .set2H, .set2L, .set2AtHl, .set2A, .set3B, .set3C, .set3D, .set3E,
   .set3H, .set3L, .set3AtHl, .set3A]

/-- Row Ex of the second table (R109). -/
def secondRowE : Vector Instr 16 :=
  #v[.set4B, .set4C, .set4D, .set4E, .set4H, .set4L, .set4AtHl, .set4A, .set5B, .set5C, .set5D, .set5E,
   .set5H, .set5L, .set5AtHl, .set5A]

/-- Row Fx of the second table (R109). -/
def secondRowF : Vector Instr 16 :=
  #v[.set6B, .set6C, .set6D, .set6E, .set6H, .set6L, .set6AtHl, .set6A, .set7B, .set7C, .set7D, .set7E,
   .set7H, .set7L, .set7AtHl, .set7A]

/-- The second table (R109): all 256 values are defined. -/
def secondTable : Vector (Vector Instr 16) 16 :=
  #v[secondRow0, secondRow1, secondRow2, secondRow3, secondRow4, secondRow5, secondRow6, secondRow7,
    secondRow8, secondRow9, secondRowA, secondRowB, secondRowC, secondRowD, secondRowE, secondRowF]

/-- The entry of the second table for the byte after the prefix (R276). -/
def secondEntry (op : Byte) : Instr := secondTable[hiNibble op][loNibble op]

/-- The instruction at the head of a byte string, and the bytes after it. The prefix byte alone is PREFIX CB, whose
length counts only itself (R116); followed by a byte it is the second table's instruction (R113). -/
def decode : List Byte → Except DecodeError (Instr × List Byte)
  | [] => .error .truncated
  | op :: rest =>
    match firstEntry op with
    | .op i => .ok (i, rest)
    | .n8 k =>
      match rest with
      | n :: rest => .ok (k n, rest)
      | [] => .error .truncated
    | .n16 k =>
      match rest with
      | lo :: hi :: rest => .ok (k (hi ++ lo), rest)
      | _ => .error .truncated
    | .skip i =>
      match rest with
      | _ :: rest => .ok (i, rest)
      | [] => .error .truncated
    | .cb =>
      match rest with
      | op2 :: rest => .ok (secondEntry op2, rest)
      | [] => .ok (.prefixCb, [])

/-- The bytes of an instruction, opcode first (R100). STOP's second byte is ignored whatever its value; assemblers
emit 0x00 (R273). -/
def encode : Instr → List Byte
  | .nop => [0x00]
  | .ldBcN16 n => [0x01, n.extractLsb' 0 8, n.extractLsb' 8 8]
  | .ldAtBcA => [0x02]
  | .incBc => [0x03]
  | .incB => [0x04]
  | .decB => [0x05]
  | .ldBN8 n => [0x06, n]
  | .rlca => [0x07]
  | .ldAtN16Sp n => [0x08, n.extractLsb' 0 8, n.extractLsb' 8 8]
  | .addHlBc => [0x09]
  | .ldAAtBc => [0x0A]
  | .decBc => [0x0B]
  | .incC => [0x0C]
  | .decC => [0x0D]
  | .ldCN8 n => [0x0E, n]
  | .rrca => [0x0F]
  | .stop => [0x10, 0x00]
  | .ldDeN16 n => [0x11, n.extractLsb' 0 8, n.extractLsb' 8 8]
  | .ldAtDeA => [0x12]
  | .incDe => [0x13]
  | .incD => [0x14]
  | .decD => [0x15]
  | .ldDN8 n => [0x16, n]
  | .rla => [0x17]
  | .jrE8 e => [0x18, e]
  | .addHlDe => [0x19]
  | .ldAAtDe => [0x1A]
  | .decDe => [0x1B]
  | .incE => [0x1C]
  | .decE => [0x1D]
  | .ldEN8 n => [0x1E, n]
  | .rra => [0x1F]
  | .jrNzE8 e => [0x20, e]
  | .ldHlN16 n => [0x21, n.extractLsb' 0 8, n.extractLsb' 8 8]
  | .ldAtHlIncA => [0x22]
  | .incHl => [0x23]
  | .incH => [0x24]
  | .decH => [0x25]
  | .ldHN8 n => [0x26, n]
  | .daa => [0x27]
  | .jrZE8 e => [0x28, e]
  | .addHlHl => [0x29]
  | .ldAAtHlInc => [0x2A]
  | .decHl => [0x2B]
  | .incL => [0x2C]
  | .decL => [0x2D]
  | .ldLN8 n => [0x2E, n]
  | .cpl => [0x2F]
  | .jrNcE8 e => [0x30, e]
  | .ldSpN16 n => [0x31, n.extractLsb' 0 8, n.extractLsb' 8 8]
  | .ldAtHlDecA => [0x32]
  | .incSp => [0x33]
  | .incAtHl => [0x34]
  | .decAtHl => [0x35]
  | .ldAtHlN8 n => [0x36, n]
  | .scf => [0x37]
  | .jrCE8 e => [0x38, e]
  | .addHlSp => [0x39]
  | .ldAAtHlDec => [0x3A]
  | .decSp => [0x3B]
  | .incA => [0x3C]
  | .decA => [0x3D]
  | .ldAN8 n => [0x3E, n]
  | .ccf => [0x3F]
  | .ldBB => [0x40]
  | .ldBC => [0x41]
  | .ldBD => [0x42]
  | .ldBE => [0x43]
  | .ldBH => [0x44]
  | .ldBL => [0x45]
  | .ldBAtHl => [0x46]
  | .ldBA => [0x47]
  | .ldCB => [0x48]
  | .ldCC => [0x49]
  | .ldCD => [0x4A]
  | .ldCE => [0x4B]
  | .ldCH => [0x4C]
  | .ldCL => [0x4D]
  | .ldCAtHl => [0x4E]
  | .ldCA => [0x4F]
  | .ldDB => [0x50]
  | .ldDC => [0x51]
  | .ldDD => [0x52]
  | .ldDE => [0x53]
  | .ldDH => [0x54]
  | .ldDL => [0x55]
  | .ldDAtHl => [0x56]
  | .ldDA => [0x57]
  | .ldEB => [0x58]
  | .ldEC => [0x59]
  | .ldED => [0x5A]
  | .ldEE => [0x5B]
  | .ldEH => [0x5C]
  | .ldEL => [0x5D]
  | .ldEAtHl => [0x5E]
  | .ldEA => [0x5F]
  | .ldHB => [0x60]
  | .ldHC => [0x61]
  | .ldHD => [0x62]
  | .ldHE => [0x63]
  | .ldHH => [0x64]
  | .ldHL => [0x65]
  | .ldHAtHl => [0x66]
  | .ldHA => [0x67]
  | .ldLB => [0x68]
  | .ldLC => [0x69]
  | .ldLD => [0x6A]
  | .ldLE => [0x6B]
  | .ldLH => [0x6C]
  | .ldLL => [0x6D]
  | .ldLAtHl => [0x6E]
  | .ldLA => [0x6F]
  | .ldAtHlB => [0x70]
  | .ldAtHlC => [0x71]
  | .ldAtHlD => [0x72]
  | .ldAtHlE => [0x73]
  | .ldAtHlH => [0x74]
  | .ldAtHlL => [0x75]
  | .halt => [0x76]
  | .ldAtHlA => [0x77]
  | .ldAB => [0x78]
  | .ldAC => [0x79]
  | .ldAD => [0x7A]
  | .ldAE => [0x7B]
  | .ldAH => [0x7C]
  | .ldAL => [0x7D]
  | .ldAAtHl => [0x7E]
  | .ldAA => [0x7F]
  | .addAB => [0x80]
  | .addAC => [0x81]
  | .addAD => [0x82]
  | .addAE => [0x83]
  | .addAH => [0x84]
  | .addAL => [0x85]
  | .addAAtHl => [0x86]
  | .addAA => [0x87]
  | .adcAB => [0x88]
  | .adcAC => [0x89]
  | .adcAD => [0x8A]
  | .adcAE => [0x8B]
  | .adcAH => [0x8C]
  | .adcAL => [0x8D]
  | .adcAAtHl => [0x8E]
  | .adcAA => [0x8F]
  | .subB => [0x90]
  | .subC => [0x91]
  | .subD => [0x92]
  | .subE => [0x93]
  | .subH => [0x94]
  | .subL => [0x95]
  | .subAtHl => [0x96]
  | .subA => [0x97]
  | .sbcAB => [0x98]
  | .sbcAC => [0x99]
  | .sbcAD => [0x9A]
  | .sbcAE => [0x9B]
  | .sbcAH => [0x9C]
  | .sbcAL => [0x9D]
  | .sbcAAtHl => [0x9E]
  | .sbcAA => [0x9F]
  | .andB => [0xA0]
  | .andC => [0xA1]
  | .andD => [0xA2]
  | .andE => [0xA3]
  | .andH => [0xA4]
  | .andL => [0xA5]
  | .andAtHl => [0xA6]
  | .andA => [0xA7]
  | .xorB => [0xA8]
  | .xorC => [0xA9]
  | .xorD => [0xAA]
  | .xorE => [0xAB]
  | .xorH => [0xAC]
  | .xorL => [0xAD]
  | .xorAtHl => [0xAE]
  | .xorA => [0xAF]
  | .orB => [0xB0]
  | .orC => [0xB1]
  | .orD => [0xB2]
  | .orE => [0xB3]
  | .orH => [0xB4]
  | .orL => [0xB5]
  | .orAtHl => [0xB6]
  | .orA => [0xB7]
  | .cpB => [0xB8]
  | .cpC => [0xB9]
  | .cpD => [0xBA]
  | .cpE => [0xBB]
  | .cpH => [0xBC]
  | .cpL => [0xBD]
  | .cpAtHl => [0xBE]
  | .cpA => [0xBF]
  | .retNz => [0xC0]
  | .popBc => [0xC1]
  | .jpNzN16 n => [0xC2, n.extractLsb' 0 8, n.extractLsb' 8 8]
  | .jpN16 n => [0xC3, n.extractLsb' 0 8, n.extractLsb' 8 8]
  | .callNzN16 n => [0xC4, n.extractLsb' 0 8, n.extractLsb' 8 8]
  | .pushBc => [0xC5]
  | .addAN8 n => [0xC6, n]
  | .rst00 => [0xC7]
  | .retZ => [0xC8]
  | .ret => [0xC9]
  | .jpZN16 n => [0xCA, n.extractLsb' 0 8, n.extractLsb' 8 8]
  | .prefixCb => [0xCB]
  | .callZN16 n => [0xCC, n.extractLsb' 0 8, n.extractLsb' 8 8]
  | .callN16 n => [0xCD, n.extractLsb' 0 8, n.extractLsb' 8 8]
  | .adcAN8 n => [0xCE, n]
  | .rst08 => [0xCF]
  | .retNc => [0xD0]
  | .popDe => [0xD1]
  | .jpNcN16 n => [0xD2, n.extractLsb' 0 8, n.extractLsb' 8 8]
  | .illegal op => [op]
  | .callNcN16 n => [0xD4, n.extractLsb' 0 8, n.extractLsb' 8 8]
  | .pushDe => [0xD5]
  | .subN8 n => [0xD6, n]
  | .rst10 => [0xD7]
  | .retC => [0xD8]
  | .reti => [0xD9]
  | .jpCN16 n => [0xDA, n.extractLsb' 0 8, n.extractLsb' 8 8]
  | .callCN16 n => [0xDC, n.extractLsb' 0 8, n.extractLsb' 8 8]
  | .sbcAN8 n => [0xDE, n]
  | .rst18 => [0xDF]
  | .ldhAtN8A n => [0xE0, n]
  | .popHl => [0xE1]
  | .ldhAtCA => [0xE2]
  | .pushHl => [0xE5]
  | .andN8 n => [0xE6, n]
  | .rst20 => [0xE7]
  | .addSpE8 e => [0xE8, e]
  | .jpHl => [0xE9]
  | .ldAtN16A n => [0xEA, n.extractLsb' 0 8, n.extractLsb' 8 8]
  | .xorN8 n => [0xEE, n]
  | .rst28 => [0xEF]
  | .ldhAAtN8 n => [0xF0, n]
  | .popAf => [0xF1]
  | .ldhAAtC => [0xF2]
  | .di => [0xF3]
  | .pushAf => [0xF5]
  | .orN8 n => [0xF6, n]
  | .rst30 => [0xF7]
  | .ldHlSpE8 e => [0xF8, e]
  | .ldSpHl => [0xF9]
  | .ldAAtN16 n => [0xFA, n.extractLsb' 0 8, n.extractLsb' 8 8]
  | .ei => [0xFB]
  | .cpN8 n => [0xFE, n]
  | .rst38 => [0xFF]
  | .rlcB => [0xCB, 0x00]
  | .rlcC => [0xCB, 0x01]
  | .rlcD => [0xCB, 0x02]
  | .rlcE => [0xCB, 0x03]
  | .rlcH => [0xCB, 0x04]
  | .rlcL => [0xCB, 0x05]
  | .rlcAtHl => [0xCB, 0x06]
  | .rlcA => [0xCB, 0x07]
  | .rrcB => [0xCB, 0x08]
  | .rrcC => [0xCB, 0x09]
  | .rrcD => [0xCB, 0x0A]
  | .rrcE => [0xCB, 0x0B]
  | .rrcH => [0xCB, 0x0C]
  | .rrcL => [0xCB, 0x0D]
  | .rrcAtHl => [0xCB, 0x0E]
  | .rrcA => [0xCB, 0x0F]
  | .rlB => [0xCB, 0x10]
  | .rlC => [0xCB, 0x11]
  | .rlD => [0xCB, 0x12]
  | .rlE => [0xCB, 0x13]
  | .rlH => [0xCB, 0x14]
  | .rlL => [0xCB, 0x15]
  | .rlAtHl => [0xCB, 0x16]
  | .rlA => [0xCB, 0x17]
  | .rrB => [0xCB, 0x18]
  | .rrC => [0xCB, 0x19]
  | .rrD => [0xCB, 0x1A]
  | .rrE => [0xCB, 0x1B]
  | .rrH => [0xCB, 0x1C]
  | .rrL => [0xCB, 0x1D]
  | .rrAtHl => [0xCB, 0x1E]
  | .rrA => [0xCB, 0x1F]
  | .slaB => [0xCB, 0x20]
  | .slaC => [0xCB, 0x21]
  | .slaD => [0xCB, 0x22]
  | .slaE => [0xCB, 0x23]
  | .slaH => [0xCB, 0x24]
  | .slaL => [0xCB, 0x25]
  | .slaAtHl => [0xCB, 0x26]
  | .slaA => [0xCB, 0x27]
  | .sraB => [0xCB, 0x28]
  | .sraC => [0xCB, 0x29]
  | .sraD => [0xCB, 0x2A]
  | .sraE => [0xCB, 0x2B]
  | .sraH => [0xCB, 0x2C]
  | .sraL => [0xCB, 0x2D]
  | .sraAtHl => [0xCB, 0x2E]
  | .sraA => [0xCB, 0x2F]
  | .swapB => [0xCB, 0x30]
  | .swapC => [0xCB, 0x31]
  | .swapD => [0xCB, 0x32]
  | .swapE => [0xCB, 0x33]
  | .swapH => [0xCB, 0x34]
  | .swapL => [0xCB, 0x35]
  | .swapAtHl => [0xCB, 0x36]
  | .swapA => [0xCB, 0x37]
  | .srlB => [0xCB, 0x38]
  | .srlC => [0xCB, 0x39]
  | .srlD => [0xCB, 0x3A]
  | .srlE => [0xCB, 0x3B]
  | .srlH => [0xCB, 0x3C]
  | .srlL => [0xCB, 0x3D]
  | .srlAtHl => [0xCB, 0x3E]
  | .srlA => [0xCB, 0x3F]
  | .bit0B => [0xCB, 0x40]
  | .bit0C => [0xCB, 0x41]
  | .bit0D => [0xCB, 0x42]
  | .bit0E => [0xCB, 0x43]
  | .bit0H => [0xCB, 0x44]
  | .bit0L => [0xCB, 0x45]
  | .bit0AtHl => [0xCB, 0x46]
  | .bit0A => [0xCB, 0x47]
  | .bit1B => [0xCB, 0x48]
  | .bit1C => [0xCB, 0x49]
  | .bit1D => [0xCB, 0x4A]
  | .bit1E => [0xCB, 0x4B]
  | .bit1H => [0xCB, 0x4C]
  | .bit1L => [0xCB, 0x4D]
  | .bit1AtHl => [0xCB, 0x4E]
  | .bit1A => [0xCB, 0x4F]
  | .bit2B => [0xCB, 0x50]
  | .bit2C => [0xCB, 0x51]
  | .bit2D => [0xCB, 0x52]
  | .bit2E => [0xCB, 0x53]
  | .bit2H => [0xCB, 0x54]
  | .bit2L => [0xCB, 0x55]
  | .bit2AtHl => [0xCB, 0x56]
  | .bit2A => [0xCB, 0x57]
  | .bit3B => [0xCB, 0x58]
  | .bit3C => [0xCB, 0x59]
  | .bit3D => [0xCB, 0x5A]
  | .bit3E => [0xCB, 0x5B]
  | .bit3H => [0xCB, 0x5C]
  | .bit3L => [0xCB, 0x5D]
  | .bit3AtHl => [0xCB, 0x5E]
  | .bit3A => [0xCB, 0x5F]
  | .bit4B => [0xCB, 0x60]
  | .bit4C => [0xCB, 0x61]
  | .bit4D => [0xCB, 0x62]
  | .bit4E => [0xCB, 0x63]
  | .bit4H => [0xCB, 0x64]
  | .bit4L => [0xCB, 0x65]
  | .bit4AtHl => [0xCB, 0x66]
  | .bit4A => [0xCB, 0x67]
  | .bit5B => [0xCB, 0x68]
  | .bit5C => [0xCB, 0x69]
  | .bit5D => [0xCB, 0x6A]
  | .bit5E => [0xCB, 0x6B]
  | .bit5H => [0xCB, 0x6C]
  | .bit5L => [0xCB, 0x6D]
  | .bit5AtHl => [0xCB, 0x6E]
  | .bit5A => [0xCB, 0x6F]
  | .bit6B => [0xCB, 0x70]
  | .bit6C => [0xCB, 0x71]
  | .bit6D => [0xCB, 0x72]
  | .bit6E => [0xCB, 0x73]
  | .bit6H => [0xCB, 0x74]
  | .bit6L => [0xCB, 0x75]
  | .bit6AtHl => [0xCB, 0x76]
  | .bit6A => [0xCB, 0x77]
  | .bit7B => [0xCB, 0x78]
  | .bit7C => [0xCB, 0x79]
  | .bit7D => [0xCB, 0x7A]
  | .bit7E => [0xCB, 0x7B]
  | .bit7H => [0xCB, 0x7C]
  | .bit7L => [0xCB, 0x7D]
  | .bit7AtHl => [0xCB, 0x7E]
  | .bit7A => [0xCB, 0x7F]
  | .res0B => [0xCB, 0x80]
  | .res0C => [0xCB, 0x81]
  | .res0D => [0xCB, 0x82]
  | .res0E => [0xCB, 0x83]
  | .res0H => [0xCB, 0x84]
  | .res0L => [0xCB, 0x85]
  | .res0AtHl => [0xCB, 0x86]
  | .res0A => [0xCB, 0x87]
  | .res1B => [0xCB, 0x88]
  | .res1C => [0xCB, 0x89]
  | .res1D => [0xCB, 0x8A]
  | .res1E => [0xCB, 0x8B]
  | .res1H => [0xCB, 0x8C]
  | .res1L => [0xCB, 0x8D]
  | .res1AtHl => [0xCB, 0x8E]
  | .res1A => [0xCB, 0x8F]
  | .res2B => [0xCB, 0x90]
  | .res2C => [0xCB, 0x91]
  | .res2D => [0xCB, 0x92]
  | .res2E => [0xCB, 0x93]
  | .res2H => [0xCB, 0x94]
  | .res2L => [0xCB, 0x95]
  | .res2AtHl => [0xCB, 0x96]
  | .res2A => [0xCB, 0x97]
  | .res3B => [0xCB, 0x98]
  | .res3C => [0xCB, 0x99]
  | .res3D => [0xCB, 0x9A]
  | .res3E => [0xCB, 0x9B]
  | .res3H => [0xCB, 0x9C]
  | .res3L => [0xCB, 0x9D]
  | .res3AtHl => [0xCB, 0x9E]
  | .res3A => [0xCB, 0x9F]
  | .res4B => [0xCB, 0xA0]
  | .res4C => [0xCB, 0xA1]
  | .res4D => [0xCB, 0xA2]
  | .res4E => [0xCB, 0xA3]
  | .res4H => [0xCB, 0xA4]
  | .res4L => [0xCB, 0xA5]
  | .res4AtHl => [0xCB, 0xA6]
  | .res4A => [0xCB, 0xA7]
  | .res5B => [0xCB, 0xA8]
  | .res5C => [0xCB, 0xA9]
  | .res5D => [0xCB, 0xAA]
  | .res5E => [0xCB, 0xAB]
  | .res5H => [0xCB, 0xAC]
  | .res5L => [0xCB, 0xAD]
  | .res5AtHl => [0xCB, 0xAE]
  | .res5A => [0xCB, 0xAF]
  | .res6B => [0xCB, 0xB0]
  | .res6C => [0xCB, 0xB1]
  | .res6D => [0xCB, 0xB2]
  | .res6E => [0xCB, 0xB3]
  | .res6H => [0xCB, 0xB4]
  | .res6L => [0xCB, 0xB5]
  | .res6AtHl => [0xCB, 0xB6]
  | .res6A => [0xCB, 0xB7]
  | .res7B => [0xCB, 0xB8]
  | .res7C => [0xCB, 0xB9]
  | .res7D => [0xCB, 0xBA]
  | .res7E => [0xCB, 0xBB]
  | .res7H => [0xCB, 0xBC]
  | .res7L => [0xCB, 0xBD]
  | .res7AtHl => [0xCB, 0xBE]
  | .res7A => [0xCB, 0xBF]
  | .set0B => [0xCB, 0xC0]
  | .set0C => [0xCB, 0xC1]
  | .set0D => [0xCB, 0xC2]
  | .set0E => [0xCB, 0xC3]
  | .set0H => [0xCB, 0xC4]
  | .set0L => [0xCB, 0xC5]
  | .set0AtHl => [0xCB, 0xC6]
  | .set0A => [0xCB, 0xC7]
  | .set1B => [0xCB, 0xC8]
  | .set1C => [0xCB, 0xC9]
  | .set1D => [0xCB, 0xCA]
  | .set1E => [0xCB, 0xCB]
  | .set1H => [0xCB, 0xCC]
  | .set1L => [0xCB, 0xCD]
  | .set1AtHl => [0xCB, 0xCE]
  | .set1A => [0xCB, 0xCF]
  | .set2B => [0xCB, 0xD0]
  | .set2C => [0xCB, 0xD1]
  | .set2D => [0xCB, 0xD2]
  | .set2E => [0xCB, 0xD3]
  | .set2H => [0xCB, 0xD4]
  | .set2L => [0xCB, 0xD5]
  | .set2AtHl => [0xCB, 0xD6]
  | .set2A => [0xCB, 0xD7]
  | .set3B => [0xCB, 0xD8]
  | .set3C => [0xCB, 0xD9]
  | .set3D => [0xCB, 0xDA]
  | .set3E => [0xCB, 0xDB]
  | .set3H => [0xCB, 0xDC]
  | .set3L => [0xCB, 0xDD]
  | .set3AtHl => [0xCB, 0xDE]
  | .set3A => [0xCB, 0xDF]
  | .set4B => [0xCB, 0xE0]
  | .set4C => [0xCB, 0xE1]
  | .set4D => [0xCB, 0xE2]
  | .set4E => [0xCB, 0xE3]
  | .set4H => [0xCB, 0xE4]
  | .set4L => [0xCB, 0xE5]
  | .set4AtHl => [0xCB, 0xE6]
  | .set4A => [0xCB, 0xE7]
  | .set5B => [0xCB, 0xE8]
  | .set5C => [0xCB, 0xE9]
  | .set5D => [0xCB, 0xEA]
  | .set5E => [0xCB, 0xEB]
  | .set5H => [0xCB, 0xEC]
  | .set5L => [0xCB, 0xED]
  | .set5AtHl => [0xCB, 0xEE]
  | .set5A => [0xCB, 0xEF]
  | .set6B => [0xCB, 0xF0]
  | .set6C => [0xCB, 0xF1]
  | .set6D => [0xCB, 0xF2]
  | .set6E => [0xCB, 0xF3]
  | .set6H => [0xCB, 0xF4]
  | .set6L => [0xCB, 0xF5]
  | .set6AtHl => [0xCB, 0xF6]
  | .set6A => [0xCB, 0xF7]
  | .set7B => [0xCB, 0xF8]
  | .set7C => [0xCB, 0xF9]
  | .set7D => [0xCB, 0xFA]
  | .set7E => [0xCB, 0xFB]
  | .set7H => [0xCB, 0xFC]
  | .set7L => [0xCB, 0xFD]
  | .set7AtHl => [0xCB, 0xFE]
  | .set7A => [0xCB, 0xFF]

/-- The bytes of the instruction whose bits are `w`, as spec/opcode_table.json numbers them. A first-table row has
eight bits: the operand bytes above them are zero, and the prefix byte stands alone (its row's length is 1). A
second-table row has sixteen, match and mask "on `byte0 ++ byte1`" (R116), so byte 0 is bits 15:8; a 16-bit number
whose bits 15:8 are not the prefix byte is laid out with byte 0 in bits 7:0. Log 12. -/
def tableBytes (nbits w : Nat) : List Byte :=
  let b0 : Byte := BitVec.ofNat 8 w
  let b1 : Byte := BitVec.ofNat 8 (w / 256)
  let b2 : Byte := BitVec.ofNat 8 (w / 65536)
  if nbits ≤ 8 then (if b0 = 0xCB#8 then [b0] else [b0, 0, 0])
  else if nbits ≤ 16 ∧ b1 = 0xCB#8 then [b1, b0, 0]
  else [b0, b1, b2]

/-- The instruction the decoder reads from the table's bits `w`. -/
def decodeTableWord (nbits w : Nat) : Option Instr :=
  match decode (tableBytes nbits w) with
  | .ok r => some r.1
  | .error _ => none

/-! ### The families of the field tables (R103): one function from field values to the constructor -/

/-- `LD r,r'` (R130). -/
def Instr.ldRegReg (dst src : Reg8) : Instr :=
  match dst, src with
  | .b, .b => .ldBB
  | .b, .c => .ldBC
  | .b, .d => .ldBD
  | .b, .e => .ldBE
  | .b, .h => .ldBH
  | .b, .l => .ldBL
  | .b, .a => .ldBA
  | .c, .b => .ldCB
  | .c, .c => .ldCC
  | .c, .d => .ldCD
  | .c, .e => .ldCE
  | .c, .h => .ldCH
  | .c, .l => .ldCL
  | .c, .a => .ldCA
  | .d, .b => .ldDB
  | .d, .c => .ldDC
  | .d, .d => .ldDD
  | .d, .e => .ldDE
  | .d, .h => .ldDH
  | .d, .l => .ldDL
  | .d, .a => .ldDA
  | .e, .b => .ldEB
  | .e, .c => .ldEC
  | .e, .d => .ldED
  | .e, .e => .ldEE
  | .e, .h => .ldEH
  | .e, .l => .ldEL
  | .e, .a => .ldEA
  | .h, .b => .ldHB
  | .h, .c => .ldHC
  | .h, .d => .ldHD
  | .h, .e => .ldHE
  | .h, .h => .ldHH
  | .h, .l => .ldHL
  | .h, .a => .ldHA
  | .l, .b => .ldLB
  | .l, .c => .ldLC
  | .l, .d => .ldLD
  | .l, .e => .ldLE
  | .l, .h => .ldLH
  | .l, .l => .ldLL
  | .l, .a => .ldLA
  | .a, .b => .ldAB
  | .a, .c => .ldAC
  | .a, .d => .ldAD
  | .a, .e => .ldAE
  | .a, .h => .ldAH
  | .a, .l => .ldAL
  | .a, .a => .ldAA

/-- `LD r,n8` (R131). -/
def Instr.ldRegImm (dst : Reg8) (n : Byte) : Instr :=
  match dst with
  | .b => .ldBN8 n
  | .c => .ldCN8 n
  | .d => .ldDN8 n
  | .e => .ldEN8 n
  | .h => .ldHN8 n
  | .l => .ldLN8 n
  | .a => .ldAN8 n

/-- `LD r,(HL)` (R132). -/
def Instr.ldRegHl (dst : Reg8) : Instr :=
  match dst with
  | .b => .ldBAtHl
  | .c => .ldCAtHl
  | .d => .ldDAtHl
  | .e => .ldEAtHl
  | .h => .ldHAtHl
  | .l => .ldLAtHl
  | .a => .ldAAtHl

/-- `LD (HL),r` (R133). -/
def Instr.ldHlReg (r : Reg8) : Instr :=
  match r with
  | .b => .ldAtHlB
  | .c => .ldAtHlC
  | .d => .ldAtHlD
  | .e => .ldAtHlE
  | .h => .ldAtHlH
  | .l => .ldAtHlL
  | .a => .ldAtHlA

/-- `LD rr,n16` (R150). -/
def Instr.ldPairImm (rr : RegPair) (n : Word) : Instr :=
  match rr with
  | .bc => .ldBcN16 n
  | .de => .ldDeN16 n
  | .hl => .ldHlN16 n
  | .sp => .ldSpN16 n

/-- `PUSH rr` (R153). -/
def Instr.push (rr : StackPair) : Instr :=
  match rr with
  | .bc => .pushBc
  | .de => .pushDe
  | .hl => .pushHl
  | .af => .pushAf

/-- `POP rr` (R154). -/
def Instr.pop (rr : StackPair) : Instr :=
  match rr with
  | .bc => .popBc
  | .de => .popDe
  | .hl => .popHl
  | .af => .popAf

/-- The accumulator operations, register operand (R162 to R183). -/
def Instr.aluReg (op : AluOp) (r : Reg8) : Instr :=
  match op, r with
  | .add, .b => .addAB
  | .add, .c => .addAC
  | .add, .d => .addAD
  | .add, .e => .addAE
  | .add, .h => .addAH
  | .add, .l => .addAL
  | .add, .a => .addAA
  | .adc, .b => .adcAB
  | .adc, .c => .adcAC
  | .adc, .d => .adcAD
  | .adc, .e => .adcAE
  | .adc, .h => .adcAH
  | .adc, .l => .adcAL
  | .adc, .a => .adcAA
  | .sub, .b => .subB
  | .sub, .c => .subC
  | .sub, .d => .subD
  | .sub, .e => .subE
  | .sub, .h => .subH
  | .sub, .l => .subL
  | .sub, .a => .subA
  | .sbc, .b => .sbcAB
  | .sbc, .c => .sbcAC
  | .sbc, .d => .sbcAD
  | .sbc, .e => .sbcAE
  | .sbc, .h => .sbcAH
  | .sbc, .l => .sbcAL
  | .sbc, .a => .sbcAA
  | .and, .b => .andB
  | .and, .c => .andC
  | .and, .d => .andD
  | .and, .e => .andE
  | .and, .h => .andH
  | .and, .l => .andL
  | .and, .a => .andA
  | .xor, .b => .xorB
  | .xor, .c => .xorC
  | .xor, .d => .xorD
  | .xor, .e => .xorE
  | .xor, .h => .xorH
  | .xor, .l => .xorL
  | .xor, .a => .xorA
  | .or, .b => .orB
  | .or, .c => .orC
  | .or, .d => .orD
  | .or, .e => .orE
  | .or, .h => .orH
  | .or, .l => .orL
  | .or, .a => .orA
  | .cp, .b => .cpB
  | .cp, .c => .cpC
  | .cp, .d => .cpD
  | .cp, .e => .cpE
  | .cp, .h => .cpH
  | .cp, .l => .cpL
  | .cp, .a => .cpA

/-- The accumulator operations, memory operand. -/
def Instr.aluHl (op : AluOp) : Instr :=
  match op with
  | .add => .addAAtHl
  | .adc => .adcAAtHl
  | .sub => .subAtHl
  | .sbc => .sbcAAtHl
  | .and => .andAtHl
  | .xor => .xorAtHl
  | .or => .orAtHl
  | .cp => .cpAtHl

/-- The accumulator operations, immediate operand. -/
def Instr.aluImm (op : AluOp) (n : Byte) : Instr :=
  match op with
  | .add => .addAN8 n
  | .adc => .adcAN8 n
  | .sub => .subN8 n
  | .sbc => .sbcAN8 n
  | .and => .andN8 n
  | .xor => .xorN8 n
  | .or => .orN8 n
  | .cp => .cpN8 n

/-- `INC r` (R186). -/
def Instr.incReg (r : Reg8) : Instr :=
  match r with
  | .b => .incB
  | .c => .incC
  | .d => .incD
  | .e => .incE
  | .h => .incH
  | .l => .incL
  | .a => .incA

/-- `DEC r` (R188). -/
def Instr.decReg (r : Reg8) : Instr :=
  match r with
  | .b => .decB
  | .c => .decC
  | .d => .decD
  | .e => .decE
  | .h => .decH
  | .l => .decL
  | .a => .decA

/-- `ADD HL,rr` (R200). -/
def Instr.addHlPair (rr : RegPair) : Instr :=
  match rr with
  | .bc => .addHlBc
  | .de => .addHlDe
  | .hl => .addHlHl
  | .sp => .addHlSp

/-- `INC rr` (R201). -/
def Instr.incPair (rr : RegPair) : Instr :=
  match rr with
  | .bc => .incBc
  | .de => .incDe
  | .hl => .incHl
  | .sp => .incSp

/-- `DEC rr` (R202). -/
def Instr.decPair (rr : RegPair) : Instr :=
  match rr with
  | .bc => .decBc
  | .de => .decDe
  | .hl => .decHl
  | .sp => .decSp

/-- The second-table shifters, register operand (R215 to R229). -/
def Instr.shiftReg (op : ShiftOp) (r : Reg8) : Instr :=
  match op, r with
  | .rlc, .b => .rlcB
  | .rlc, .c => .rlcC
  | .rlc, .d => .rlcD
  | .rlc, .e => .rlcE
  | .rlc, .h => .rlcH
  | .rlc, .l => .rlcL
  | .rlc, .a => .rlcA
  | .rrc, .b => .rrcB
  | .rrc, .c => .rrcC
  | .rrc, .d => .rrcD
  | .rrc, .e => .rrcE
  | .rrc, .h => .rrcH
  | .rrc, .l => .rrcL
  | .rrc, .a => .rrcA
  | .rl, .b => .rlB
  | .rl, .c => .rlC
  | .rl, .d => .rlD
  | .rl, .e => .rlE
  | .rl, .h => .rlH
  | .rl, .l => .rlL
  | .rl, .a => .rlA
  | .rr, .b => .rrB
  | .rr, .c => .rrC
  | .rr, .d => .rrD
  | .rr, .e => .rrE
  | .rr, .h => .rrH
  | .rr, .l => .rrL
  | .rr, .a => .rrA
  | .sla, .b => .slaB
  | .sla, .c => .slaC
  | .sla, .d => .slaD
  | .sla, .e => .slaE
  | .sla, .h => .slaH
  | .sla, .l => .slaL
  | .sla, .a => .slaA
  | .sra, .b => .sraB
  | .sra, .c => .sraC
  | .sra, .d => .sraD
  | .sra, .e => .sraE
  | .sra, .h => .sraH
  | .sra, .l => .sraL
  | .sra, .a => .sraA
  | .swap, .b => .swapB
  | .swap, .c => .swapC
  | .swap, .d => .swapD
  | .swap, .e => .swapE
  | .swap, .h => .swapH
  | .swap, .l => .swapL
  | .swap, .a => .swapA
  | .srl, .b => .srlB
  | .srl, .c => .srlC
  | .srl, .d => .srlD
  | .srl, .e => .srlE
  | .srl, .h => .srlH
  | .srl, .l => .srlL
  | .srl, .a => .srlA

/-- The second-table shifters, memory operand (R216 to R230). -/
def Instr.shiftHl (op : ShiftOp) : Instr :=
  match op with
  | .rlc => .rlcAtHl
  | .rrc => .rrcAtHl
  | .rl => .rlAtHl
  | .rr => .rrAtHl
  | .sla => .slaAtHl
  | .sra => .sraAtHl
  | .swap => .swapAtHl
  | .srl => .srlAtHl

/-- `BIT b,r` (R231). -/
def Instr.bitReg (b : Fin 8) (r : Reg8) : Instr :=
  match b, r with
  | 0, .b => .bit0B
  | 0, .c => .bit0C
  | 0, .d => .bit0D
  | 0, .e => .bit0E
  | 0, .h => .bit0H
  | 0, .l => .bit0L
  | 0, .a => .bit0A
  | 1, .b => .bit1B
  | 1, .c => .bit1C
  | 1, .d => .bit1D
  | 1, .e => .bit1E
  | 1, .h => .bit1H
  | 1, .l => .bit1L
  | 1, .a => .bit1A
  | 2, .b => .bit2B
  | 2, .c => .bit2C
  | 2, .d => .bit2D
  | 2, .e => .bit2E
  | 2, .h => .bit2H
  | 2, .l => .bit2L
  | 2, .a => .bit2A
  | 3, .b => .bit3B
  | 3, .c => .bit3C
  | 3, .d => .bit3D
  | 3, .e => .bit3E
  | 3, .h => .bit3H
  | 3, .l => .bit3L
  | 3, .a => .bit3A
  | 4, .b => .bit4B
  | 4, .c => .bit4C
  | 4, .d => .bit4D
  | 4, .e => .bit4E
  | 4, .h => .bit4H
  | 4, .l => .bit4L
  | 4, .a => .bit4A
  | 5, .b => .bit5B
  | 5, .c => .bit5C
  | 5, .d => .bit5D
  | 5, .e => .bit5E
  | 5, .h => .bit5H
  | 5, .l => .bit5L
  | 5, .a => .bit5A
  | 6, .b => .bit6B
  | 6, .c => .bit6C
  | 6, .d => .bit6D
  | 6, .e => .bit6E
  | 6, .h => .bit6H
  | 6, .l => .bit6L
  | 6, .a => .bit6A
  | 7, .b => .bit7B
  | 7, .c => .bit7C
  | 7, .d => .bit7D
  | 7, .e => .bit7E
  | 7, .h => .bit7H
  | 7, .l => .bit7L
  | 7, .a => .bit7A

/-- `BIT b,(HL)`. -/
def Instr.bitHl (b : Fin 8) : Instr :=
  match b with
  | 0 => .bit0AtHl
  | 1 => .bit1AtHl
  | 2 => .bit2AtHl
  | 3 => .bit3AtHl
  | 4 => .bit4AtHl
  | 5 => .bit5AtHl
  | 6 => .bit6AtHl
  | 7 => .bit7AtHl

/-- `RES b,r` (R233). -/
def Instr.resReg (b : Fin 8) (r : Reg8) : Instr :=
  match b, r with
  | 0, .b => .res0B
  | 0, .c => .res0C
  | 0, .d => .res0D
  | 0, .e => .res0E
  | 0, .h => .res0H
  | 0, .l => .res0L
  | 0, .a => .res0A
  | 1, .b => .res1B
  | 1, .c => .res1C
  | 1, .d => .res1D
  | 1, .e => .res1E
  | 1, .h => .res1H
  | 1, .l => .res1L
  | 1, .a => .res1A
  | 2, .b => .res2B
  | 2, .c => .res2C
  | 2, .d => .res2D
  | 2, .e => .res2E
  | 2, .h => .res2H
  | 2, .l => .res2L
  | 2, .a => .res2A
  | 3, .b => .res3B
  | 3, .c => .res3C
  | 3, .d => .res3D
  | 3, .e => .res3E
  | 3, .h => .res3H
  | 3, .l => .res3L
  | 3, .a => .res3A
  | 4, .b => .res4B
  | 4, .c => .res4C
  | 4, .d => .res4D
  | 4, .e => .res4E
  | 4, .h => .res4H
  | 4, .l => .res4L
  | 4, .a => .res4A
  | 5, .b => .res5B
  | 5, .c => .res5C
  | 5, .d => .res5D
  | 5, .e => .res5E
  | 5, .h => .res5H
  | 5, .l => .res5L
  | 5, .a => .res5A
  | 6, .b => .res6B
  | 6, .c => .res6C
  | 6, .d => .res6D
  | 6, .e => .res6E
  | 6, .h => .res6H
  | 6, .l => .res6L
  | 6, .a => .res6A
  | 7, .b => .res7B
  | 7, .c => .res7C
  | 7, .d => .res7D
  | 7, .e => .res7E
  | 7, .h => .res7H
  | 7, .l => .res7L
  | 7, .a => .res7A

/-- `RES b,(HL)`. -/
def Instr.resHl (b : Fin 8) : Instr :=
  match b with
  | 0 => .res0AtHl
  | 1 => .res1AtHl
  | 2 => .res2AtHl
  | 3 => .res3AtHl
  | 4 => .res4AtHl
  | 5 => .res5AtHl
  | 6 => .res6AtHl
  | 7 => .res7AtHl

/-- `SET b,r` (R235). -/
def Instr.setReg (b : Fin 8) (r : Reg8) : Instr :=
  match b, r with
  | 0, .b => .set0B
  | 0, .c => .set0C
  | 0, .d => .set0D
  | 0, .e => .set0E
  | 0, .h => .set0H
  | 0, .l => .set0L
  | 0, .a => .set0A
  | 1, .b => .set1B
  | 1, .c => .set1C
  | 1, .d => .set1D
  | 1, .e => .set1E
  | 1, .h => .set1H
  | 1, .l => .set1L
  | 1, .a => .set1A
  | 2, .b => .set2B
  | 2, .c => .set2C
  | 2, .d => .set2D
  | 2, .e => .set2E
  | 2, .h => .set2H
  | 2, .l => .set2L
  | 2, .a => .set2A
  | 3, .b => .set3B
  | 3, .c => .set3C
  | 3, .d => .set3D
  | 3, .e => .set3E
  | 3, .h => .set3H
  | 3, .l => .set3L
  | 3, .a => .set3A
  | 4, .b => .set4B
  | 4, .c => .set4C
  | 4, .d => .set4D
  | 4, .e => .set4E
  | 4, .h => .set4H
  | 4, .l => .set4L
  | 4, .a => .set4A
  | 5, .b => .set5B
  | 5, .c => .set5C
  | 5, .d => .set5D
  | 5, .e => .set5E
  | 5, .h => .set5H
  | 5, .l => .set5L
  | 5, .a => .set5A
  | 6, .b => .set6B
  | 6, .c => .set6C
  | 6, .d => .set6D
  | 6, .e => .set6E
  | 6, .h => .set6H
  | 6, .l => .set6L
  | 6, .a => .set6A
  | 7, .b => .set7B
  | 7, .c => .set7C
  | 7, .d => .set7D
  | 7, .e => .set7E
  | 7, .h => .set7H
  | 7, .l => .set7L
  | 7, .a => .set7A

/-- `SET b,(HL)`. -/
def Instr.setHl (b : Fin 8) : Instr :=
  match b with
  | 0 => .set0AtHl
  | 1 => .set1AtHl
  | 2 => .set2AtHl
  | 3 => .set3AtHl
  | 4 => .set4AtHl
  | 5 => .set5AtHl
  | 6 => .set6AtHl
  | 7 => .set7AtHl

/-- `JP cc,n16` (R252). -/
def Instr.jpCond (cc : Cond) (n : Word) : Instr :=
  match cc with
  | .nz => .jpNzN16 n
  | .z => .jpZN16 n
  | .nc => .jpNcN16 n
  | .c => .jpCN16 n

/-- `JR cc,e8` (R255). -/
def Instr.jrCond (cc : Cond) (e : Byte) : Instr :=
  match cc with
  | .nz => .jrNzE8 e
  | .z => .jrZE8 e
  | .nc => .jrNcE8 e
  | .c => .jrCE8 e

/-- `CALL cc,n16` (R257). -/
def Instr.callCond (cc : Cond) (n : Word) : Instr :=
  match cc with
  | .nz => .callNzN16 n
  | .z => .callZN16 n
  | .nc => .callNcN16 n
  | .c => .callCN16 n

/-- `RET cc` (R259). -/
def Instr.retCond (cc : Cond) : Instr :=
  match cc with
  | .nz => .retNz
  | .z => .retZ
  | .nc => .retNc
  | .c => .retC

/-- `RST y*8` (R261). -/
def Instr.rst (y : Fin 8) : Instr :=
  match y with
  | 0 => .rst00
  | 1 => .rst08
  | 2 => .rst10
  | 3 => .rst18
  | 4 => .rst20
  | 5 => .rst28
  | 6 => .rst30
  | 7 => .rst38

end Sys2Proof
end

