-- ==== Sys2Proof/Config.lean ====
section
/-! DEFINITION. The named parameters the model takes as arguments (spec/00_scope.md R6) and the functions of the external
collaborators, which have no body. Configuration is fixed for the whole run (spec/10_state.md R43): a machine carries
its parameters in `State.params`, which no step and no move of the host writes. -/

namespace Sys2Proof

/-- The two values of the parameter `STOP_MODE` (R6, R273). -/
inductive StopMode where
  | refuse | nop
  deriving DecidableEq, Repr

/-- The parameters of R6's second table that are values, one field each. `RESET` is `ResetValues` and the four
collaborators are `Cart`, `Timer`, `Audio` and `Joypad`, all beside the state. -/
structure Params where
  /-- `ECHO_READ`: what a read of 0xE000 to 0xFDFF returns (R65). -/
  echoRead : Byte
  /-- `PROHIBITED_READ`: what a read of 0xFEA0 to 0xFEFF returns (R65). -/
  prohibitedRead : Byte
  /-- `IO_UNMAPPED_READ`: what a read of an unassigned I/O address returns (R65). -/
  ioUnmappedRead : Byte
  /-- `OAM_DMA_READ`: what a read of object memory returns while a transfer is active (R65, R69). -/
  oamDmaRead : Byte
  /-- `STOP_MODE`: what STOP is (R273). -/
  stopMode : StopMode
  /-- `INT_LEAD_TICKS`: internal cycles before the pushes of a dispatch (R370). -/
  intLeadTicks : Nat
  /-- `INT_TAIL_TICKS`: internal cycles after the pushes of a dispatch (R370). -/
  intTailTicks : Nat
  /-- `STAT_OAM_IRQ`: whether entering OAM-scan raises the STAT interrupt (R312). -/
  statOamIrq : Bool
  /-- `SHADE[0]` (R34, R346). -/
  shade0 : Colour
  /-- `SHADE[1]`. -/
  shade1 : Colour
  /-- `SHADE[2]`. -/
  shade2 : Colour
  /-- `SHADE[3]`. -/
  shade3 : Colour
  deriving DecidableEq, Repr

/-- The defaults of R6's second table, row by row. -/
def Params.default : Params where
  echoRead := 0x00
  prohibitedRead := 0x00
  ioUnmappedRead := 0xFF
  oamDmaRead := 0xFF
  stopMode := .refuse
  intLeadTicks := 2
  intTailTicks := 1
  statOamIrq := false
  shade0 := 0xFFFFFFFF
  shade1 := 0xFFAAAAAA
  shade2 := 0xFF555555
  shade3 := 0xFF000000

/-! ### External collaborators

Each has a state of its own, a code that only these functions read. None has a body: nothing can be proved of what it
answers. -/

/-- `CartRead` of an external cartridge (R66): any byte, which may depend on the cartridge's own state and on the address.
It cannot depend on the dot counter: "No instruction can read it" (R42). -/
opaque Config.cartRead : (own : Nat) → (addr : Word) → Byte

/-- `CartRead` of an external cartridge (R62, R66, R76): the cartridge's own state after a read. -/
opaque Config.cartAfterRead : (own : Nat) → (addr : Word) → Nat

/-- `CartWrite` of an external cartridge (R66): the cartridge's own state after a write. -/
opaque Config.cartWrite : (own : Nat) → (addr : Word) → (v : Byte) → Nat

/-- `TimerTick` of an external timer (R380): its own state after a dot. -/
opaque Config.timerTick : (own : Nat) → Nat

/-- `TimerTick` of an external timer (R380): whether the dot calls `Request(TIMER)`. -/
opaque Config.timerTickRequests : (own : Nat) → Bool

/-- `TimerRead` of an external timer (R380); it changes nothing. -/
opaque Config.timerRead : (own : Nat) → (addr : Word) → Byte

/-- `TimerWrite` of an external timer (R380): its own state after a write. -/
opaque Config.timerWrite : (own : Nat) → (addr : Word) → (v : Byte) → Nat

/-- `TimerWrite` of an external timer (R380): whether the write calls `Request(TIMER)`. -/
opaque Config.timerWriteRequests : (own : Nat) → (addr : Word) → (v : Byte) → Bool

/-- `AudioTick` of an external audio unit (R293): its own state after a dot. -/
opaque Config.audioTick : (own : Nat) → Nat

/-- `AudioRead` of an external audio unit (R72). -/
opaque Config.audioRead : (own : Nat) → (addr : Word) → Byte

/-- `AudioRead` of an external audio unit (R72, R76): its own state after a read. -/
opaque Config.audioAfterRead : (own : Nat) → (addr : Word) → Nat

/-- `AudioWrite` of an external audio unit (R72): its own state after a write. -/
opaque Config.audioWrite : (own : Nat) → (addr : Word) → (v : Byte) → Nat

/-- `JoypadRead` of an external joypad (R71). -/
opaque Config.joypadRead : (own : Nat) → Byte

/-- `JoypadRead` of an external joypad (R71, R76): its own state after a read. -/
opaque Config.joypadAfterRead : (own : Nat) → Nat

/-- `JoypadWrite` of an external joypad (R71): its own state after a write. -/
opaque Config.joypadWrite : (own : Nat) → (v : Byte) → Nat

/-- An external joypad's own state after the host changes the snapshot (R390). -/
opaque Config.joypadInput : (own : Nat) → (v : Byte) → Nat

end Sys2Proof
end

