-- ==== Sys2Proof/Machine/State.lean ====
section
/-! DEFINITION. The machine state as plain data: the aggregate of spec/10_state.md R20, its reset values (R44), and
the reasons for which a step can stop. -/

namespace Sys2Proof.Machine

/-- Memory: the bytes of the cartridge ROM image, VRAM, WRAM, OAM and HRAM by bus address (R30, R61), sorted by
address, no address twice, no byte listed that equals what an unlisted address reads as. -/
abbrev Memory := List Host.Cell

/-- The cartridge collaborator (R66): the simplest instance (a 32 KiB read-only image held in `mem`), or an external
one whose own state is a code that only `Config.cartRead`,
`Config.cartAfterRead` and `Config.cartWrite` read. DESIGN CHOICE, log 4. -/
inductive Cart where
  | rom32k
  | external (own : Nat)
  deriving DecidableEq, Repr

/-- The five interrupt sources, bit 0 upward (R28). -/
inductive Source where
  | vblank | stat | timer | serial | joypad
  deriving DecidableEq, Repr

/-- The picture generator's mode (R36). -/
inductive PpuMode where
  | oamScan | transfer | hblank | vblank
  deriving DecidableEq, Repr

/-- The pixel fetcher's state (R38). -/
inductive FetchState where
  | tile | dataLo | dataHi | idle | push
  deriving DecidableEq, Repr

/-- One OAM entry (R305). -/
structure Sprite where
  y : Byte
  x : Byte
  tile : Byte
  attr : Byte
  deriving DecidableEq, Repr

/-- PixelFetcherState (R38). DESIGN CHOICE, log 17: `sprLo` and `sprHi` are lists beside `fetched`. -/
structure Fetcher where
  fstate : FetchState
  fifo : List Colour
  fetchX : Nat
  lineX : Nat
  pushedX : Nat
  fifoX : Nat
  bgTile : Byte
  bgLo : Byte
  bgHi : Byte
  bgIsWindow : Bool
  fetched : List Sprite
  sprLo : List Byte
  sprHi : List Byte
  deriving DecidableEq, Repr

/-- The picture generator: its registers (R31 to R34) and its internal state (R36, R37, R38). -/
structure Ppu where
  lcdc : Byte
  statEn : Byte
  lycEq : Bool
  scy : Byte
  scx : Byte
  ly : Byte
  lyc : Byte
  bgp : Byte
  obp0 : Byte
  obp1 : Byte
  wy : Byte
  wx : Byte
  mode : PpuMode
  dot : Nat
  frame : Nat
  windowLine : Nat
  framebuffer : List (Nat × Colour)
  frameReady : Bool
  lineSprites : List Sprite
  fetcher : Fetcher
  deriving DecidableEq, Repr

/-- The reference timer's state (R40, R381). -/
structure RefTimer where
  div16 : BitVec 16
  tima : Byte
  tma : Byte
  tac : Byte
  deriving DecidableEq, Repr

/-- The parameter `Timer` (R6, R380): the reference timer, its default instance, or an external one whose own state is
a code. DESIGN CHOICE, log 8. -/
inductive Timer where
  | reference (t : RefTimer)
  | external (own : Nat)
  deriving DecidableEq, Repr

/-- The parameter `Audio` (R6, R72, R293): the default instance, which has no state, or an external one whose own state
is a code. DESIGN CHOICE, log 7. -/
inductive Audio where
  | silent
  | external (own : Nat)
  deriving DecidableEq, Repr

/-- The parameter `Joypad` (R6, R71): the default instance, which reads as the host's snapshot and ignores writes, or an
external one whose own state is a code. DESIGN CHOICE, log 6. -/
inductive Joypad where
  | snapshot (v : Byte)
  | external (own : Nat)
  deriving DecidableEq, Repr

/-- The OAM-DMA unit (R39, R384, R385). -/
structure Dma where
  active : Bool
  nextByte : Nat
  page : Byte
  delay : Nat
  deriving DecidableEq, Repr

/-- What `raise Fatal` records (R26, R360): opcode, the address it was fetched from, the dot counter. -/
structure FatalInfo where
  opcode : Byte
  addr : Word
  ticks : Nat
  deriving DecidableEq, Repr

/-- The parameter `RESET`: the record of every reset value (R6, R44). `fatal` is false after every reset, which is the
way out of it (R360, R400); the contents of memory are unspecified (R401, log 1). -/
structure ResetValues where
  a : Byte
  f : Byte
  b : Byte
  c : Byte
  d : Byte
  e : Byte
  h : Byte
  l : Byte
  sp : Word
  pc : Word
  halted : Bool
  stopRequested : Bool
  ime : Bool
  imePending : Bool
  ie : Byte
  intf : Byte
  ppu : Ppu
  dmaReg : Byte
  dma : Dma
  timer : RefTimer
  sb : Byte
  sc : Byte
  ticks : Nat
  deriving DecidableEq, Repr

/-- The whole machine (R20): CPU registers (R21 to R25), run state (R26), interrupt bits (R27, R28), memories (R30),
picture generator (R31 to R38), DMA register and unit (R35, R39), timer (R40), serial bytes (R41), dot counter (R42);
beside them the other collaborators, the cartridge (R66), the joypad (R71) and the audio unit (R72); and the parameters
of the machine (R6), which nothing writes: its values and its `RESET`. DESIGN CHOICE, log 20. -/
structure State where
  a : Byte
  f : Byte
  b : Byte
  c : Byte
  d : Byte
  e : Byte
  h : Byte
  l : Byte
  sp : Word
  pc : Word
  halted : Bool
  fatal : Bool
  fatalInfo : Option FatalInfo
  stopRequested : Bool
  ime : Bool
  imePending : Bool
  ie : Byte
  intf : Byte
  mem : Memory
  ppu : Ppu
  dmaReg : Byte
  dma : Dma
  timer : Timer
  sb : Byte
  sc : Byte
  ticks : Nat
  cart : Cart
  joypad : Joypad
  audio : Audio
  params : Params
  launch : ResetValues
  deriving DecidableEq, Repr

/-- No step of this machine faults: "No error is ever signaled — the bus is total over the full 16-bit address
space" (R60), and the one exception, Fatal, is a state the machine is in (R360, R361). So there is no constructor. DEDUCED, log 15. -/
inductive Fault where
  deriving DecidableEq, Repr

/-- Why the model may give a step no meaning. -/
inductive Refusal where
  /-- Raised by exec's arm of an instruction that has no meaning yet, by its mnemonic in the opcode table. Safe. No
  arm raises it now. -/
  | notModelled (mnemonic : String)
  /-- Raised by STOP where the parameter `STOP_MODE` is `refuse` (R273). Safe. `State.reset` has it at `nop`, so no run
  from there meets this refusal. -/
  | stopRefused
  deriving DecidableEq, Repr

/-- What an instruction's meaning answers. -/
abbrev Result := Host.Outcome State Fault Refusal

/-- The fetcher at reset (R44); R330 makes it afresh with the same values at the start of every transfer. -/
def Fetcher.reset : Fetcher where
  fstate := .tile
  fifo := []
  fetchX := 0
  lineX := 0
  pushedX := 0
  fifoX := 0
  bgTile := 0
  bgLo := 0
  bgHi := 0
  bgIsWindow := false
  fetched := []
  sprLo := []
  sprHi := []

/-- The picture generator at reset (R44). DESIGN CHOICE, log 1: the framebuffer, unspecified, lists nothing. -/
def Ppu.reset : Ppu where
  lcdc := 0x91
  statEn := 0x00
  lycEq := false
  scy := 0x00
  scx := 0x00
  ly := 0x00
  lyc := 0x00
  bgp := 0xFC
  obp0 := 0xFF
  obp1 := 0xFF
  wy := 0x00
  wx := 0x00
  mode := .oamScan
  dot := 0
  frame := 0
  windowLine := 0
  framebuffer := []
  frameReady := false
  lineSprites := []
  fetcher := Fetcher.reset

/-- The reference timer at reset (R44). -/
def RefTimer.reset : RefTimer where
  div16 := 0xABCC
  tima := 0x00
  tma := 0x00
  tac := 0x00

/-- The DMA unit at reset (R44). -/
def Dma.reset : Dma where
  active := false
  nextByte := 0
  page := 0x00
  delay := 0

/-- The default of the parameter `RESET`: the table of R44. -/
def ResetValues.default : ResetValues where
  a := 0x01
  f := 0xB0
  b := 0x00
  c := 0x13
  d := 0x00
  e := 0xD8
  h := 0x01
  l := 0x4D
  sp := 0xFFFE
  pc := 0x0100
  halted := false
  stopRequested := false
  ime := false
  imePending := false
  ie := 0x00
  intf := 0x00
  ppu := Ppu.reset
  dmaReg := 0xFF
  dma := Dma.reset
  timer := RefTimer.reset
  sb := 0x00
  sc := 0x00
  ticks := 0

/-- The machine right after a reset with the parameters `p` and the values `r`, with each collaborator at its default
instance (R6, R400). DESIGN CHOICE, log 1: memory, unspecified, lists nothing; log 2: no fatal record is held. -/
def State.launched (p : Params) (r : ResetValues) : State where
  a := r.a
  f := r.f
  b := r.b
  c := r.c
  d := r.d
  e := r.e
  h := r.h
  l := r.l
  sp := r.sp
  pc := r.pc
  halted := r.halted
  fatal := false
  fatalInfo := none
  stopRequested := r.stopRequested
  ime := r.ime
  imePending := r.imePending
  ie := r.ie
  intf := r.intf
  mem := []
  ppu := r.ppu
  dmaReg := r.dmaReg
  dma := r.dma
  timer := .reference r.timer
  sb := r.sb
  sc := r.sc
  ticks := r.ticks
  cart := .rom32k
  joypad := .snapshot 0xFF
  audio := .silent
  params := p
  launch := r

/-- The machine right after reset, every parameter at its default (R6, R44, R400) but `STOP_MODE`, which is the one of
its two values that gives STOP an effect. DESIGN CHOICE, log 3, unsafe. -/
def State.reset : State := State.launched { Params.default with stopMode := .nop } ResetValues.default

end Sys2Proof.Machine
end

