-- ==== Sys2Proof/Machine/Memory.lean ====
section
/-! DEFINITION. The named operations over memory and over the framebuffer: both are lists of (key, value) pairs in
one canonical form (keys strictly rising, no entry equal to what an unlisted key reads as). -/

namespace Sys2Proof.Machine

/-- The value at a key: the entry listed for it, else `dflt`. -/
def sparseRead {β : Type} (dflt : β) : List (Nat × β) → Nat → β
  | [], _ => dflt
  | (k, v) :: m, a => if k = a then v else sparseRead dflt m a

/-- The list without the entry of key `a`. -/
def sparseErase {β : Type} : List (Nat × β) → Nat → List (Nat × β)
  | [], _ => []
  | (k, v) :: m, a => if k = a then sparseErase m a else (k, v) :: sparseErase m a

/-- The list with an entry for `a` put before the first greater key. -/
def sparseInsert {β : Type} : List (Nat × β) → Nat → β → List (Nat × β)
  | [], a, v => [(a, v)]
  | (k, w) :: m, a, v => if a < k then (a, v) :: (k, w) :: m else (k, w) :: sparseInsert m a v

/-- Write `v` at key `a`; writing the value an unlisted key reads as removes the entry. -/
def sparseWrite {β : Type} [DecidableEq β] (dflt : β) (m : List (Nat × β)) (a : Nat) (v : β) : List (Nat × β) :=
  if v = dflt then sparseErase m a else sparseInsert (sparseErase m a) a v

/-- The canonical form, with every key below `bound`. -/
def sparseWf {β : Type} [DecidableEq β] (dflt : β) (bound : Nat) : List (Nat × β) → Bool
  | [] => true
  | (k, v) :: m => decide (v ≠ dflt) && decide (k < bound) && m.all (fun c => decide (k < c.1)) && sparseWf dflt bound m

/-- What an address of memory that nothing lists reads as. DESIGN CHOICE, log 1, unsafe: the contents of RAM after
reset are unspecified (R44, R401), "a simulator may use zero"; the ROM image's unlisted bytes are 0x00 as the test
vectors' image has them (spec/95_test_vectors.md section 1). -/
def Memory.unlisted : Byte := 0x00

/-- The byte of memory at a bus address. -/
def Memory.read (m : Memory) (a : Nat) : Byte := sparseRead Memory.unlisted m a

/-- Store a byte at a bus address. -/
def Memory.write (m : Memory) (a : Nat) (v : Byte) : Memory := sparseWrite Memory.unlisted m a v

/-- The canonical form of memory: addresses strictly rising, below 65536, no entry equal to what an unlisted address
reads as. -/
def Memory.wf (m : Memory) : Bool := sparseWf Memory.unlisted 65536 m

/-- The colour of a framebuffer pixel that nothing lists: DESIGN CHOICE, log 1, unsafe (R44: unspecified). -/
def blankColour : Colour := 0

/-- The framebuffer's pixel at index `x + 160*y` (R36). -/
def framebufferRead (fb : List (Nat × Colour)) (i : Nat) : Colour := sparseRead blankColour fb i

/-- Write the framebuffer's pixel at index `i`. -/
def framebufferWrite (fb : List (Nat × Colour)) (i : Nat) (c : Colour) : List (Nat × Colour) :=
  sparseWrite blankColour fb i c

/-- The canonical form of the framebuffer, 160 × 144 = 23040 pixels (R36). -/
def framebufferWf (fb : List (Nat × Colour)) : Bool := sparseWf blankColour 23040 fb

end Sys2Proof.Machine
end

