-- ==== Sys2Proof/Machine/Interrupt.lean ====
section
/-! DEFINITION. The interrupt controller's pure data and its operations `Request` and selection
(spec/60_exceptions.md R363 to R369). -/

namespace Sys2Proof.Machine

/-- The number of a source, its bit in IE and IF (R28). -/
def sourceIndex : Source → Nat
  | .vblank => 0
  | .stat => 1
  | .timer => 2
  | .serial => 3
  | .joypad => 4

/-- `1 << k` (R364). -/
def sourceMask (k : Source) : Byte := 1#8 <<< sourceIndex k

/-- `vector[k] = 0x0040 + 8k` (R369). -/
def sourceVector (k : Source) : Word := BitVec.ofNat 16 (0x0040 + 8 * sourceIndex k)

/-- `Request(k)`: `IF <- IF | (1 << k)` (R364). -/
def request (s : State) (k : Source) : State := { s with intf := s.intf ||| sourceMask k }

/-- The pending mask after several requests, in the order they are made. -/
def requestMask (v : Byte) : List Source → Byte
  | [] => v
  | k :: ks => requestMask (v ||| sourceMask k) ks

/-- The requests of one tick: each is `Request` of its source (R364). -/
def requests (s : State) (ks : List Source) : State := { s with intf := requestMask s.intf ks }

/-- `IF & IE & 0x1F`: the candidates at a check (R366). -/
def pendingMask (s : State) : Byte := s.intf &&& s.ie &&& 0x1F#8

/-- The lowest set bit of the candidates: vertical-blank > STAT > timer > serial > joypad (R366). -/
def selectSource (p : Byte) : Option Source :=
  if p.getLsbD 0 then some .vblank
  else if p.getLsbD 1 then some .stat
  else if p.getLsbD 2 then some .timer
  else if p.getLsbD 3 then some .serial
  else if p.getLsbD 4 then some .joypad
  else none

end Sys2Proof.Machine
end

