-- ==== Sys2Proof/Machine/Timer.lean ====
section
/-! DEFINITION. The timer (spec/60_exceptions.md R380, R381): the reference timer, and the interface through which the
machine reaches whichever timer it has. -/

namespace Sys2Proof.Machine

/-- The timer's four registers (R64). -/
inductive TimerReg where
  | div | tima | tma | tac
  deriving DecidableEq, Repr

/-- The address of a timer register (R64). -/
def timerAddr : TimerReg → Word
  | .div => 0xFF04
  | .tima => 0xFF05
  | .tma => 0xFF06
  | .tac => 0xFF07

/-! ### The reference timer (R381) -/

/-- The bit of the divider that TAC[1:0] selects: 9, 3, 5 or 7. -/
def timerBit (tac : Byte) : Nat :=
  match tac.getLsbD 1, tac.getLsbD 0 with
  | false, false => 9
  | false, true => 3
  | true, false => 5
  | true, true => 7

/-- Whether this tick of the divider is a falling edge of the selected bit with the timer enabled. -/
def refTimerEdge (t : RefTimer) : Bool :=
  t.tac.getLsbD 2 && t.div16.getLsbD (timerBit t.tac) && !(t.div16 + 1).getLsbD (timerBit t.tac)

/-- `TimerTick()` on the timer's own state. -/
def refTimerTick (t : RefTimer) : RefTimer :=
  { t with
    div16 := t.div16 + 1
    tima := if refTimerEdge t then (if t.tima = 0xFF#8 then t.tma else t.tima + 1) else t.tima }

/-- Whether a tick requests TIMER: on overflow. -/
def refTimerOverflows (t : RefTimer) : Bool := refTimerEdge t && decide (t.tima = 0xFF#8)

/-- `TimerRead`; DIV is `div16[15:8]`. -/
def refTimerRead (t : RefTimer) : TimerReg → Byte
  | .div => t.div16.extractLsb' 8 8
  | .tima => t.tima
  | .tma => t.tma
  | .tac => t.tac

/-- `TimerWrite`; any value written to DIV clears the divider. -/
def refTimerWrite (t : RefTimer) (r : TimerReg) (v : Byte) : RefTimer :=
  match r with
  | .div => { t with div16 := 0 }
  | .tima => { t with tima := v }
  | .tma => { t with tma := v }
  | .tac => { t with tac := v }

/-! ### The interface (R380) -/

/-- The one request a timer may make. -/
def timerIf (b : Bool) : List Source := if b then [.timer] else []

/-- `TimerTick()`: the timer after a dot. -/
def timerTick : Timer → Timer
  | .reference t => .reference (refTimerTick t)
  | .external own => .external (Config.timerTick own)

/-- `TimerTick()`: the requests of a dot. -/
def timerRequests : Timer → List Source
  | .reference t => timerIf (refTimerOverflows t)
  | .external own => timerIf (Config.timerTickRequests own)

/-- `TimerRead(a)`. -/
def timerRead (t : Timer) (r : TimerReg) : Byte :=
  match t with
  | .reference t => refTimerRead t r
  | .external own => Config.timerRead own (timerAddr r)

/-- `TimerWrite(a, v)`: the timer after a write. -/
def timerWrite (t : Timer) (r : TimerReg) (v : Byte) : Timer :=
  match t with
  | .reference t => .reference (refTimerWrite t r v)
  | .external own => .external (Config.timerWrite own (timerAddr r) v)

/-- `TimerWrite(a, v)`: the requests of a write; the reference timer makes none. -/
def timerWriteRequests (t : Timer) (r : TimerReg) (v : Byte) : List Source :=
  match t with
  | .reference _ => []
  | .external own => timerIf (Config.timerWriteRequests own (timerAddr r) v)

end Sys2Proof.Machine
end

