-- ==== Sys2Proof/Machine/Collaborators.lean ====
section
/-! DEFINITION. The interfaces of the cartridge, the joypad and the audio unit (spec/20_memory.md R66, R71, R72,
spec/47_cycle_distributor.md R293): each at its default instance, or an external one whose functions are those of
Config, which have no body. -/

namespace Sys2Proof.Machine

/-! ### The cartridge -/

/-- `CartRead(a)` (R66): the simplest instance gives the image below 0x8000 and 0xFF in the RAM window. -/
def cartRead (s : State) (a : Word) : Byte :=
  match s.cart with
  | .rom32k => if a.toNat < 0x8000 then Memory.read s.mem a.toNat else 0xFF#8
  | .external own => Config.cartRead own a

/-- `CartWrite(a, v)` (R66): the simplest instance ignores it. -/
def cartWrite (s : State) (a : Word) (v : Byte) : State :=
  match s.cart with
  | .rom32k => s
  | .external own => { s with cart := .external (Config.cartWrite own a v) }

/-- What a `CartRead(a)` leaves of the cartridge: nothing changes in the simplest instance, an external cartridge's own
state may (R62, R66, R76). -/
def cartAfterRead (s : State) (a : Word) : State :=
  match s.cart with
  | .rom32k => s
  | .external own => { s with cart := .external (Config.cartAfterRead own a) }

/-! ### The joypad -/

/-- `JoypadRead()` (R71). -/
def joypadRead : Joypad → Byte
  | .snapshot v => v
  | .external own => Config.joypadRead own

/-- What a `JoypadRead()` leaves of the joypad (R76). -/
def joypadAfterRead : Joypad → Joypad
  | .snapshot v => .snapshot v
  | .external own => .external (Config.joypadAfterRead own)

/-- `JoypadWrite(v)`: the default instance ignores it (R71). -/
def joypadWrite (j : Joypad) (v : Byte) : Joypad :=
  match j with
  | .snapshot w => .snapshot w
  | .external own => .external (Config.joypadWrite own v)

/-- The host changes the snapshot: what `JoypadRead()` returns (R390). -/
def joypadInput (j : Joypad) (v : Byte) : Joypad :=
  match j with
  | .snapshot _ => .snapshot v
  | .external own => .external (Config.joypadInput own v)

/-! ### The audio unit -/

/-- `AudioTick()` (R293). -/
def audioTick : Audio → Audio
  | .silent => .silent
  | .external own => .external (Config.audioTick own)

/-- `AudioRead(a)`: the default instance reads 0xFF (R72). -/
def audioRead (u : Audio) (a : Word) : Byte :=
  match u with
  | .silent => 0xFF#8
  | .external own => Config.audioRead own a

/-- What an `AudioRead(a)` leaves of the audio unit (R76). -/
def audioAfterRead (u : Audio) (a : Word) : Audio :=
  match u with
  | .silent => .silent
  | .external own => .external (Config.audioAfterRead own a)

/-- `AudioWrite(a, v)`: the default instance ignores it (R72). -/
def audioWrite (u : Audio) (a : Word) (v : Byte) : Audio :=
  match u with
  | .silent => .silent
  | .external own => .external (Config.audioWrite own a v)

end Sys2Proof.Machine
end

