-- ==== Sys2Proof/Machine/Bus.lean ====
section
/-! DEFINITION. The memory bus: the address map, `BusRead` and `BusWrite` (spec/20_memory.md R60 to R76). Both are
untimed and total. -/

namespace Sys2Proof.Machine

/-- The regions of the address map (R61). -/
inductive Region where
  | cartRom | vram | cartRam | wram | echo | oam | prohibited | io | hram | ie
  deriving DecidableEq, Repr

/-- The first row of R61's table whose range contains the address. -/
def regionOf (a : Word) : Region :=
  if a.toNat < 0x8000 then .cartRom
  else if a.toNat < 0xA000 then .vram
  else if a.toNat < 0xC000 then .cartRam
  else if a.toNat < 0xE000 then .wram
  else if a.toNat < 0xFE00 then .echo
  else if a.toNat < 0xFEA0 then .oam
  else if a.toNat < 0xFF00 then .prohibited
  else if a.toNat < 0xFF80 then .io
  else if a.toNat < 0xFFFF then .hram
  else .ie

/-- The registers of the I/O range 0xFF00 to 0xFF7F (R64). -/
inductive IoReg where
  | p1 | sb | sc | timer (r : TimerReg) | intf | audio (addr : Word) | lcdc | stat | scy | scx | ly | lyc | dma
  | bgp | obp0 | obp1 | wy | wx | unmapped
  deriving DecidableEq, Repr

/-- R64's table less its two range rows. -/
def ioMap : List (Nat × IoReg) :=
  [(0xFF00, .p1), (0xFF01, .sb), (0xFF02, .sc), (0xFF04, .timer .div), (0xFF05, .timer .tima),
   (0xFF06, .timer .tma), (0xFF07, .timer .tac), (0xFF0F, .intf), (0xFF40, .lcdc), (0xFF41, .stat), (0xFF42, .scy), (0xFF43, .scx), (0xFF44, .ly), (0xFF45, .lyc),
   (0xFF46, .dma), (0xFF47, .bgp), (0xFF48, .obp0), (0xFF49, .obp1), (0xFF4A, .wy), (0xFF4B, .wx)]

/-- Which register an I/O address names (R64): audio at 0xFF10 to 0xFF3F, else the table's row, else unmapped. -/
def ioRegAt (a : Word) : IoReg :=
  if 0xFF10 ≤ a.toNat ∧ a.toNat ≤ 0xFF3F then .audio a else sparseRead .unmapped ioMap a.toNat

/-- The coding of MODE: 0 H-blank, 1 V-blank, 2 OAM-scan, 3 pixel-transfer (R32, R64). -/
def modeCode : PpuMode → Byte
  | .hblank => 0
  | .vblank => 1
  | .oamScan => 2
  | .transfer => 3

/-- A read of STAT: `0x80 | (STAT_stored & 0x78) | (LYC_EQ << 2) | MODE` (R64). -/
def statRead (p : Ppu) : Byte :=
  0x80#8 ||| (p.statEn &&& 0x78#8) ||| (if p.lycEq then 0x04#8 else 0x00#8) ||| modeCode p.mode

/-- The read column of R64. -/
def ioRead (s : State) : IoReg → Byte
  | .p1 => joypadRead s.joypad
  | .sb => s.sb
  | .sc => s.sc
  | .timer r => timerRead s.timer r
  | .intf => s.intf
  | .audio a => audioRead s.audio a
  | .lcdc => s.ppu.lcdc
  | .stat => statRead s.ppu
  | .scy => s.ppu.scy
  | .scx => s.ppu.scx
  | .ly => s.ppu.ly
  | .lyc => s.ppu.lyc
  | .dma => s.dmaReg
  | .bgp => s.ppu.bgp
  | .obp0 => s.ppu.obp0
  | .obp1 => s.ppu.obp1
  | .wy => s.ppu.wy
  | .wx => s.ppu.wx
  | .unmapped => s.params.ioUnmappedRead

/-- `DmaStart(v)` (R384). -/
def dmaStart (v : Byte) : Dma where
  active := true
  nextByte := 0
  page := v
  delay := 2

/-- What a read of an I/O register leaves: the joypad and the audio unit are handed theirs (R71, R72, R76). -/
def ioAfterRead (s : State) : IoReg → State
  | .p1 => { s with joypad := joypadAfterRead s.joypad }
  | .audio a => { s with audio := audioAfterRead s.audio a }
  | .sb => s
  | .sc => s
  | .timer _ => s
  | .intf => s
  | .lcdc => s
  | .stat => s
  | .scy => s
  | .scx => s
  | .ly => s
  | .lyc => s
  | .dma => s
  | .bgp => s
  | .obp0 => s
  | .obp1 => s
  | .wy => s
  | .wx => s
  | .unmapped => s

/-- The write column of R64: LY and unmapped addresses discard the byte; STAT stores bits 6:3; the joypad, the timer and
the audio unit are handed theirs. -/
def ioWrite (s : State) (r : IoReg) (v : Byte) : State :=
  match r with
  | .p1 => { s with joypad := joypadWrite s.joypad v }
  | .sb => { s with sb := v }
  | .sc => { s with sc := v }
  | .timer r => requests { s with timer := timerWrite s.timer r v } (timerWriteRequests s.timer r v)
  | .intf => { s with intf := v }
  | .audio a => { s with audio := audioWrite s.audio a v }
  | .lcdc => { s with ppu := { s.ppu with lcdc := v } }
  | .stat => { s with ppu := { s.ppu with statEn := v &&& 0x78#8 } }
  | .scy => { s with ppu := { s.ppu with scy := v } }
  | .scx => { s with ppu := { s.ppu with scx := v } }
  | .ly => s
  | .lyc => { s with ppu := { s.ppu with lyc := v } }
  | .dma => { s with dmaReg := v, dma := dmaStart v }
  | .bgp => { s with ppu := { s.ppu with bgp := v } }
  | .obp0 => { s with ppu := { s.ppu with obp0 := v } }
  | .obp1 => { s with ppu := { s.ppu with obp1 := v } }
  | .wy => { s with ppu := { s.ppu with wy := v } }
  | .wx => { s with ppu := { s.ppu with wx := v } }
  | .unmapped => s

/-- Store a byte in one of the four memories, at its bus address. -/
def memStore (s : State) (a : Nat) (v : Byte) : State := { s with mem := Memory.write s.mem a v }

/-- `BusRead(a)`: the byte, with no clock advanced (R62); what the read leaves of the state is `afterRead`. -/
def busRead (s : State) (a : Word) : Byte :=
  match regionOf a with
  | .cartRom => cartRead s a
  | .vram => Memory.read s.mem a.toNat
  | .cartRam => cartRead s a
  | .wram => Memory.read s.mem a.toNat
  | .echo => s.params.echoRead
  | .oam => if s.dma.active then s.params.oamDmaRead else Memory.read s.mem a.toNat
  | .prohibited => s.params.prohibitedRead
  | .io => ioRead s (ioRegAt a)
  | .hram => Memory.read s.mem a.toNat
  | .ie => s.ie

/-- The state a `BusRead(a)` leaves: no state of the core changes; a collaborator's read may change its own state (R62,
R76). -/
def afterRead (s : State) (a : Word) : State :=
  match regionOf a with
  | .cartRom => cartAfterRead s a
  | .vram => s
  | .cartRam => cartAfterRead s a
  | .wram => s
  | .echo => s
  | .oam => s
  | .prohibited => s
  | .io => ioAfterRead s (ioRegAt a)
  | .hram => s
  | .ie => s

/-- `BusWrite(a, v)`: the write action of the address's region, no clock advanced (R63). -/
def busWrite (s : State) (a : Word) (v : Byte) : State :=
  match regionOf a with
  | .cartRom => cartWrite s a v
  | .vram => memStore s a.toNat v
  | .cartRam => cartWrite s a v
  | .wram => memStore s a.toNat v
  | .echo => s
  | .oam => if s.dma.active then s else memStore s a.toNat v
  | .prohibited => s
  | .io => ioWrite s (ioRegAt a) v
  | .hram => memStore s a.toNat v
  | .ie => { s with ie := v }

end Sys2Proof.Machine
end

