-- ==== Sys2Proof/Machine/Fetcher.lean ====
section
/-! DEFINITION. The pixel fetcher, the pixel FIFO and compositing (spec/49_ppu_fetcher.md R330 to R349), with the
register fields and the OAM entry they read (spec/10_state.md R31 to R34, spec/48_ppu_modes.md R305). -/

namespace Sys2Proof.Machine

/-! ### Register fields -/

/-- LCDC.BG_ON, bit 0 (R31). -/
def bgOn (p : Ppu) : Bool := p.lcdc.getLsbD 0

/-- LCDC.OBJ_ON, bit 1 (R31). -/
def objOn (p : Ppu) : Bool := p.lcdc.getLsbD 1

/-- LCDC.OBJ_SIZE, bit 2, as the sprite height 8 or 16 (R31, R303). -/
def objHeight (p : Ppu) : Nat := if p.lcdc.getLsbD 2 then 16 else 8

/-- LCDC.BG_MAP, bit 3, as the background map's base address (R31, R334). -/
def bgMapBase (p : Ppu) : Nat := if p.lcdc.getLsbD 3 then 0x9C00 else 0x9800

/-- LCDC.TILE_DATA, bit 4 (R31). -/
def tileData (p : Ppu) : Bool := p.lcdc.getLsbD 4

/-- LCDC.WIN_ON, bit 5 (R31). -/
def winOn (p : Ppu) : Bool := p.lcdc.getLsbD 5

/-- LCDC.WIN_MAP, bit 6, as the window map's base address (R31, R335). -/
def winMapBase (p : Ppu) : Nat := if p.lcdc.getLsbD 6 then 0x9C00 else 0x9800

/-- `SCX mod 8`. -/
def scrollFine (p : Ppu) : Nat := p.scx.toNat % 8

/-- `WindowVisible()`: `LCDC.WIN_ON = 1 and WX <= 166 and WY < 144` (R318). -/
def windowVisible (p : Ppu) : Bool := winOn p && decide (p.wx.toNat ≤ 166) && decide (p.wy.toNat < 144)

/-- `SHADE[i]` (R346). -/
def shade (c : Params) (i : BitVec 2) : Colour :=
  if i = 0 then c.shade0 else if i = 1 then c.shade1 else if i = 2 then c.shade2 else c.shade3

/-- `Colour(P, i) = SHADE[P[2i+1:2i]]` (R34, R346). -/
def paletteColour (c : Params) (palette : Byte) (i : Nat) : Colour := shade c (palette.extractLsb' (2 * i) 2)

/-- The two-bit colour index of a pixel: bit 0 from the low bitplane byte, bit 1 from the high one (R341). -/
def planeIndex (lo hi : Byte) (bit : Nat) : Nat := (lo.getLsbD bit).toNat + 2 * (hi.getLsbD bit).toNat

/-! ### Direct reads of VRAM and OAM (R331) -/

/-- `VramRead(a)` for an address in 0x8000 to 0x9FFF. DEDUCED, log 11: an address outside, which no reached state
asks for (R331, R335), is reduced into VRAM as R339 reduces a sprite's. -/
def vramRead (m : Memory) (a : Nat) : Byte := Memory.read m (0x8000 + (a - 0x8000) % 0x2000)

/-- `OamEntry(i)`: the four bytes `OAM[4i .. 4i+3]` (R305). -/
def oamEntry (m : Memory) (i : Nat) : Sprite where
  y := Memory.read m (0xFE00 + 4 * i)
  x := Memory.read m (0xFE00 + 4 * i + 1)
  tile := Memory.read m (0xFE00 + 4 * i + 2)
  attr := Memory.read m (0xFE00 + 4 * i + 3)

/-- ATTR bit 7, BG_PRIO (R305). -/
def bgPrio (e : Sprite) : Bool := e.attr.getLsbD 7

/-- ATTR bit 6, Y_FLIP (R305). -/
def yFlip (e : Sprite) : Bool := e.attr.getLsbD 6

/-- ATTR bit 5, X_FLIP (R305). -/
def xFlip (e : Sprite) : Bool := e.attr.getLsbD 5

/-- ATTR bit 4, PALETTE, as the palette register it selects: 0 → OBP0, 1 → OBP1 (R305). -/
def spritePalette (p : Ppu) (e : Sprite) : Byte := if e.attr.getLsbD 4 then p.obp1 else p.obp0

/-! ### Set-up and the fetcher states -/

/-- `FetcherReset()` (R330). -/
def freshFetcher : Fetcher where
  fstate := .tile
  fifo := []
  fetchX := 0
  lineX := 0
  pushedX := 0
  fifoX := 0
  bgTile := 0
  bgLo := 0
  bgHi := 0
  bgIsWindow := false
  fetched := []
  sprLo := []
  sprHi := []

/-- `map_y = (LY + SCY) mod 256` (R332). -/
def mapY (p : Ppu) : Nat := (p.ly.toNat + p.scy.toNat) % 256

/-- `map_x = (fetch_x + SCX) mod 256` (R332). -/
def mapX (p : Ppu) : Nat := (p.fetcher.fetchX + p.scx.toNat) % 256

/-- The address of the background map byte: `base + (map_x div 8) + (map_y div 8) * 32` (R334). -/
def bgMapAddr (p : Ppu) : Nat := bgMapBase p + mapX p / 8 + mapY p / 8 * 32

/-- The condition of `WindowSubstitute()` (R335). -/
def windowHere (p : Ppu) : Bool :=
  windowVisible p && decide (p.wx.toNat ≤ p.fetcher.fetchX + 7) && decide (p.wy.toNat ≤ p.ly.toNat)

/-- The address of the window map byte: `base + ((fetch_x + 7 − WX) div 8) + (window_line div 8) * 32` (R335). -/
def winMapAddr (p : Ppu) : Nat :=
  winMapBase p + (p.fetcher.fetchX + 7 - p.wx.toNat) / 8 + p.windowLine / 8 * 32

/-- `sp_x`: the sprite's left column in FIFO coordinates, an integer (R336). -/
def spriteLeft (p : Ppu) (e : Sprite) : Int := (e.x.toNat : Int) - 8 + (scrollFine p : Int)

/-- Whether a sprite's left edge, or the column just past its right edge, lies in the fetch window (R336). -/
def inFetchWindow (p : Ppu) (e : Sprite) : Bool :=
  let w : Int := p.fetcher.fetchX
  let x := spriteLeft p e
  decide ((w ≤ x ∧ x < w + 8) ∨ (w ≤ x + 8 ∧ x + 8 < w + 8))

/-- `SelectSprites()`: the first three of the line's sprites in list order that the window takes (R336). -/
def selectSprites (p : Ppu) : List Sprite := (p.lineSprites.filter (inFetchWindow p)).take 3

/-- `FetchTile()` with `WindowSubstitute()` (R334, R335). -/
def fetchTile (m : Memory) (p : Ppu) : Ppu :=
  { p with fetcher :=
      { p.fetcher with
        bgTile :=
          if bgOn p then (if windowHere p then vramRead m (winMapAddr p) else vramRead m (bgMapAddr p))
          else p.fetcher.bgTile
        bgIsWindow := bgOn p && windowHere p
        fetched := if objOn p then selectSprites p else []
        fetchX := p.fetcher.fetchX + 8 } }

/-- The byte offset of the row inside the tile: `tile_y` or `win_ty` (R332, R337). -/
def tileRow (p : Ppu) : Nat :=
  if p.fetcher.bgIsWindow then p.windowLine % 8 * 2 else (p.ly.toNat + p.scy.toNat) % 8 * 2

/-- `TileRowAddr()` (R337). -/
def tileRowAddr (p : Ppu) : Nat :=
  if tileData p then 0x8000 + p.fetcher.bgTile.toNat * 16 + tileRow p
  else 0x8800 + (p.fetcher.bgTile.toNat + 128) % 256 * 16 + tileRow p

/-- `ty`: the byte offset of the sprite's row, an integer (R339). -/
def spriteRow (p : Ppu) (e : Sprite) : Int :=
  let ty : Int := ((p.ly.toNat : Int) + 16 - (e.y.toNat : Int)) * 2
  if yFlip e then ((objHeight p : Int) * 2 - 2) - ty else ty

/-- `SpriteRowAddr(e)`, reduced into VRAM: `0x8000 + ((t * 16 + ty) mod 0x2000)` (R339). -/
def spriteRowAddr (p : Ppu) (e : Sprite) : Nat :=
  let t : Nat := if objHeight p = 16 then (e.tile &&& 0xFE#8).toNat else e.tile.toNat
  0x8000 + ((((t * 16 : Nat) : Int) + spriteRow p e).emod 0x2000).toNat

/-- `FetchLow()` (R337). -/
def fetchLow (m : Memory) (p : Ppu) : Ppu :=
  { p with fetcher :=
      { p.fetcher with
        bgLo := vramRead m (tileRowAddr p)
        sprLo := p.fetcher.fetched.map (fun e => vramRead m (spriteRowAddr p e)) } }

/-- `FetchHigh()` (R338). -/
def fetchHigh (m : Memory) (p : Ppu) : Ppu :=
  { p with fetcher :=
      { p.fetcher with
        bgHi := vramRead m (tileRowAddr p + 1)
        sprHi := p.fetcher.fetched.map (fun e => vramRead m (spriteRowAddr p e + 1)) } }

/-! ### Push into the FIFO -/

/-- The colour index the sprite gives FIFO column `col`, 0 (transparent) outside it (R342). -/
def spriteIndex (p : Ppu) (e : Sprite) (lo hi : Byte) (col : Nat) : Nat :=
  let off : Int := (col : Int) - spriteLeft p e
  if off < 0 ∨ 7 < off then 0
  else planeIndex lo hi (if xFlip e then off.toNat else 7 - off.toNat)

/-- `SpritePixel(colour, bg_idx)`: the first opaque, unsuppressed sprite pixel in list order wins (R342). -/
def spritePixel (c : Params) (p : Ppu) (col bgIdx : Nat) (bg : Colour) : List Sprite → List Byte → List Byte → Colour
  | e :: es, lo :: los, hi :: his =>
    let i := spriteIndex p e lo hi col
    if i = 0 ∨ (bgPrio e ∧ bgIdx ≠ 0) then spritePixel c p col bgIdx bg es los his
    else paletteColour c (spritePalette p e) i
  | _, _, _ => bg

/-- The background colour index of pixel `i` of the fetched tile row; bit 7 is the leftmost pixel (R341). -/
def bgIndex (p : Ppu) (i : Nat) : Nat :=
  if bgOn p then planeIndex p.fetcher.bgLo p.fetcher.bgHi (7 - i) else 0

/-- The finished colour of pixel `i` of the fetched tile, at FIFO column `fifo_x + i` (R341, R342). -/
def composePixel (c : Params) (p : Ppu) (i : Nat) : Colour :=
  let bg := paletteColour c p.bgp (bgIndex p i)
  if objOn p then
    spritePixel c p (p.fetcher.fifoX + i) (bgIndex p i) bg p.fetcher.fetched p.fetcher.sprLo p.fetcher.sprHi
  else bg

/-- The eight colours of one push, left to right (R341). -/
def composeTile (c : Params) (p : Ppu) : List Colour := (List.range 8).map (composePixel c p)

/-- `TryPush()`'s success test (R341). -/
def canPush (p : Ppu) : Bool := decide (p.fetcher.fifo.length ≤ 8)

/-- A successful `TryPush()`, then back to the tile fetch (R333, R341). -/
def pushTile (c : Params) (p : Ppu) : Ppu :=
  { p with fetcher :=
      { p.fetcher with
        fifo := p.fetcher.fifo ++ composeTile c p
        fifoX := p.fetcher.fifoX + 8
        fstate := .tile } }

/-- Set the fetcher's state. -/
def setFetchState (f : FetchState) (p : Ppu) : Ppu := { p with fetcher := { p.fetcher with fstate := f } }

/-- `FetcherStep()` (R333). -/
def fetcherStep (c : Params) (m : Memory) (p : Ppu) : Ppu :=
  match p.fetcher.fstate with
  | .tile => setFetchState .dataLo (fetchTile m p)
  | .dataLo => setFetchState .dataHi (fetchLow m p)
  | .dataHi => setFetchState .idle (fetchHigh m p)
  | .idle => setFetchState .push p
  | .push => if canPush p then pushTile c p else p

/-! ### Pop to the screen -/

/-- Write one popped colour to the screen, or drop it if it is among the first `SCX mod 8` of the line (R344). -/
def showPixel (c : Colour) (rest : List Colour) (p : Ppu) : Ppu :=
  if scrollFine p ≤ p.fetcher.lineX then
    { p with
      framebuffer := framebufferWrite p.framebuffer (p.fetcher.pushedX + 160 * p.ly.toNat) c
      fetcher :=
        { p.fetcher with fifo := rest, pushedX := p.fetcher.pushedX + 1, lineX := p.fetcher.lineX + 1 } }
  else { p with fetcher := { p.fetcher with fifo := rest, lineX := p.fetcher.lineX + 1 } }

/-- `PushPixel()`: pop one colour while the FIFO holds more than 8 (R344). -/
def pushPixel (p : Ppu) : Ppu :=
  match p.fetcher.fifo with
  | c :: rest => if 8 < p.fetcher.fifo.length then showPixel c rest p else p
  | [] => p

end Sys2Proof.Machine
end

