-- ==== Sys2Proof/Machine/Picture.lean ====
section
/-! DEFINITION. The picture generator's mode state machine (spec/48_ppu_modes.md R300 to R322). Its tick answers the
generator's next state and the interrupt requests it makes, in order. -/

namespace Sys2Proof.Machine

/-- STAT.HBL_IE, bit 3 (R32). -/
def hblIe (p : Ppu) : Bool := p.statEn.getLsbD 3

/-- STAT.VBL_IE, bit 4 (R32). -/
def vblIe (p : Ppu) : Bool := p.statEn.getLsbD 4

/-- STAT.OAM_IE, bit 5 (R32). -/
def oamIe (p : Ppu) : Bool := p.statEn.getLsbD 5

/-- STAT.LYC_IE, bit 6 (R32). -/
def lycIe (p : Ppu) : Bool := p.statEn.getLsbD 6

/-- `Request(STAT)` if the condition holds. -/
def statIf (b : Bool) : List Source := if b then [.stat] else []

/-! ### OAM-scan -/

/-- The vertical test: `Y <= LY + 16 and Y + height > LY + 16`, in unbounded naturals (R303, R304). -/
def coversLine (p : Ppu) (e : Sprite) : Bool :=
  decide (e.y.toNat ≤ p.ly.toNat + 16) && decide (p.ly.toNat + 16 < e.y.toNat + objHeight p)

/-- Insert before the first element whose X is strictly greater, at the end if there is none (R303). -/
def insertSprite (e : Sprite) : List Sprite → List Sprite
  | [] => [e]
  | x :: xs => if e.x.toNat < x.x.toNat then e :: x :: xs else x :: insertSprite e xs

/-- One slot of the scan: nothing once ten are kept (R303). -/
def scanSlot (m : Memory) (p : Ppu) (kept : List Sprite) (i : Nat) : List Sprite :=
  if 10 ≤ kept.length then kept
  else if coversLine p (oamEntry m i) then insertSprite (oamEntry m i) kept else kept

/-- `LineScan()`: slots 0 to 39 in order (R303). -/
def lineScan (m : Memory) (p : Ppu) : List Sprite := (List.range 40).foldl (scanSlot m p) []

/-- `TickOamScan()` (R302). -/
def tickOamScan (m : Memory) (p : Ppu) : Ppu :=
  let q := if p.dot = 1 then { p with lineSprites := lineScan m p } else p
  if 80 ≤ q.dot then { q with mode := .transfer, fetcher := freshFetcher } else q

/-! ### Pixel-transfer -/

/-- The fetcher, on even dots, then the pixel push (R306). -/
def transferDot (c : Params) (m : Memory) (p : Ppu) : Ppu := pushPixel (if p.dot % 2 = 0 then fetcherStep c m p else p)

/-- The end of pixel-transfer: the FIFO is drained and H-blank entered (R306). -/
def enterHblank (p : Ppu) : Ppu := { p with mode := .hblank, fetcher := { p.fetcher with fifo := [] } }

/-- `TickTransfer()`, the generator's part (R306). -/
def tickTransfer (c : Params) (m : Memory) (p : Ppu) : Ppu :=
  let q := transferDot c m p
  if 160 ≤ q.fetcher.pushedX then enterHblank q else q

/-- `TickTransfer()`, the requests: STAT at H-blank entry if enabled (R306, R313). -/
def transferRequests (c : Params) (m : Memory) (p : Ppu) : List Source :=
  let q := transferDot c m p
  statIf (decide (160 ≤ q.fetcher.pushedX) && hblIe q)

/-! ### H-blank, the line increment, V-blank -/

/-- `CompareLine()`, the match bit (R309). -/
def compareLine (p : Ppu) : Ppu := { p with lycEq := decide (p.ly = p.lyc) }

/-- `CompareLine()`, the request (R309). -/
def compareRequests (p : Ppu) : List Source := statIf (decide (p.ly = p.lyc) && lycIe p)

/-- Whether the line just finished shows the window, so that the window-line counter steps (R309). -/
def windowLineShown (p : Ppu) : Bool :=
  windowVisible p && decide (p.wy.toNat ≤ p.ly.toNat) && decide (p.ly.toNat < p.wy.toNat + 144)

/-- `IncrementLine()` (R309). -/
def incrementLine (p : Ppu) : Ppu :=
  compareLine
    { p with
      windowLine := if windowLineShown p then p.windowLine + 1 else p.windowLine
      ly := p.ly + 1 }

/-- V-blank entry: mode, frame counter and the frame-ready signal (R308, R317). -/
def enterVblank (p : Ppu) : Ppu :=
  { p with mode := .vblank, frame := p.frame + 1, frameReady := true, dot := 0 }

/-- The start of a visible line (R308, R311). -/
def enterOamScan (p : Ppu) : Ppu := { p with mode := .oamScan, dot := 0 }

/-- The STAT OAM-scan source, raised where `STAT_OAM_IRQ` says so (R312). -/
def oamScanRequests (c : Params) (p : Ppu) : List Source := statIf (c.statOamIrq && oamIe p)

/-- `TickHblank()`, the generator's part (R308). -/
def tickHblank (p : Ppu) : Ppu :=
  if 456 ≤ p.dot then
    let q := incrementLine p
    if 144 ≤ q.ly.toNat then enterVblank q else enterOamScan q
  else p

/-- `TickHblank()`, the requests in order: the LYC match, then V-blank's two or OAM-scan's one (R308, R312). -/
def hblankRequests (c : Params) (p : Ppu) : List Source :=
  if 456 ≤ p.dot then
    let q := incrementLine p
    compareRequests q ++ (if 144 ≤ q.ly.toNat then .vblank :: statIf (vblIe q) else oamScanRequests c q)
  else []

/-- `TickVblank()`: the new line's registers, before the comparison (R311). -/
def vblankLine (p : Ppu) : Ppu :=
  if 154 ≤ p.ly.toNat + 1 then { p with ly := 0, windowLine := 0, mode := .oamScan, dot := 0 }
  else { p with ly := p.ly + 1, dot := 0 }

/-- `TickVblank()`, the generator's part (R311). -/
def tickVblank (p : Ppu) : Ppu := if 456 ≤ p.dot then compareLine (vblankLine p) else p

/-- `TickVblank()`, the requests: the LYC match, and OAM-scan's at the wrap (R311, R312). -/
def vblankRequests (c : Params) (p : Ppu) : List Source :=
  if 456 ≤ p.dot then
    compareRequests (vblankLine p) ++ (if 154 ≤ p.ly.toNat + 1 then oamScanRequests c p else [])
  else []

/-! ### The tick -/

/-- The dot counter steps first (R300). -/
def countDot (p : Ppu) : Ppu := { p with dot := p.dot + 1 }

/-- `PpuTick()`: the counter, then the handler of the mode at the start of the tick, once (R300). -/
def ppuTick (c : Params) (m : Memory) (p : Ppu) : Ppu :=
  match p.mode with
  | .oamScan => tickOamScan m (countDot p)
  | .transfer => tickTransfer c m (countDot p)
  | .hblank => tickHblank (countDot p)
  | .vblank => tickVblank (countDot p)

/-- The interrupt requests of `PpuTick()` (R313). -/
def ppuRequests (c : Params) (m : Memory) (p : Ppu) : List Source :=
  match p.mode with
  | .oamScan => []
  | .transfer => transferRequests c m (countDot p)
  | .hblank => hblankRequests c (countDot p)
  | .vblank => vblankRequests c (countDot p)

end Sys2Proof.Machine
end

