-- ==== Sys2Proof/Machine/Cycle.lean ====
section
/-! DEFINITION. The OAM-DMA unit's tick (spec/60_exceptions.md R383 to R385) and the Cycle Distributor `Advance`
(spec/47_cycle_distributor.md R290 to R294), the one place where time passes. -/

namespace Sys2Proof.Machine

/-- Write `OAM[i]` in the array itself, not through the bus (R385). DEDUCED, log 11: an index outside the 160 bytes,
which no reached state holds (R39), stores nothing. -/
def oamStore (s : State) (i : Nat) (v : Byte) : State := if i < 160 then memStore s (0xFE00 + i) v else s

/-- The source address `dma_page * 0x100 + dma_byte` (R385). -/
def dmaSource (d : Dma) : Word := BitVec.ofNat 16 (d.page.toNat * 0x100 + d.nextByte)

/-- One byte of a transfer: copy, count, stop after the 160th (R385). -/
def dmaCopy (s : State) : State :=
  let t := oamStore (afterRead s (dmaSource s.dma)) s.dma.nextByte (busRead s (dmaSource s.dma))
  { t with dma :=
      { s.dma with nextByte := s.dma.nextByte + 1, active := decide (s.dma.nextByte + 1 < 160) } }

/-- `DmaTick()` (R385). -/
def dmaTick (s : State) : State :=
  if s.dma.active then
    if 0 < s.dma.delay then { s with dma := { s.dma with delay := s.dma.delay - 1 } } else dmaCopy s
  else s

/-- `TimerTick()` on the machine (R380, R381). -/
def tickTimer (s : State) : State := requests { s with timer := timerTick s.timer } (timerRequests s.timer)

/-- `PpuTick()` on the machine (R300). -/
def tickPpu (s : State) : State :=
  requests { s with ppu := ppuTick s.params s.mem s.ppu } (ppuRequests s.params s.mem s.ppu)

/-- `AudioTick()` on the machine (R293). -/
def tickAudio (s : State) : State := { s with audio := audioTick s.audio }

/-- One dot: the counter, then timer, picture pipeline, audio, in this order (R290). -/
def advanceDot (s : State) : State := tickAudio (tickPpu (tickTimer { s with ticks := s.ticks + 1 }))

/-- One CPU cycle: four dots, then the DMA unit once (R290). -/
def advanceCycle (s : State) : State := dmaTick (advanceDot (advanceDot (advanceDot (advanceDot s))))

/-- `Advance(n)` (R290). -/
def advance : Nat → State → State
  | 0, s => s
  | n + 1, s => advance n (advanceCycle s)

end Sys2Proof.Machine
end

