-- ==== Sys2Proof/Machine/Ops.lean ====
section
/-! DEFINITION. The named operations of the CPU over registers and memory (spec/00_scope.md R10), the stack, the
fatal exception, interrupt dispatch and the return from it (spec/60_exceptions.md R360, R370, R371), and the interrupt
check that ends a step (spec/46_system.md R270). -/

namespace Sys2Proof.Machine

/-! ### Bytes and words -/

/-- `v[15:8]`. -/
def hiByte (v : Word) : Byte := v.extractLsb' 8 8

/-- `v[7:0]`. -/
def loByte (v : Word) : Byte := v.extractLsb' 0 8

/-- `hi ++ lo`. -/
def wordOf (hi lo : Byte) : Word := hi ++ lo

/-- `sext_16(e)` (R9, R105). -/
def sext16 (e : Byte) : Word := e.signExtend 16

/-! ### Registers -/

/-- `x[r]` (R10, R21). -/
def readReg (s : State) : Reg8 → Byte
  | .b => s.b
  | .c => s.c
  | .d => s.d
  | .e => s.e
  | .h => s.h
  | .l => s.l
  | .a => s.a

/-- `x[r] <- v` (R10, R21). -/
def writeReg (s : State) (r : Reg8) (v : Byte) : State :=
  match r with
  | .b => { s with b := v }
  | .c => { s with c := v }
  | .d => { s with d := v }
  | .e => { s with e := v }
  | .h => { s with h := v }
  | .l => { s with l := v }
  | .a => { s with a := v }

/-- `x[F]`: the low nibble reads as zero (R23). DEDUCED, log 14. -/
def readF (s : State) : Byte := s.f &&& 0xF0#8

/-- `x[F] <- v`: "Every write to F, by any path ... stores `v & 0xF0`" (R23). -/
def writeF (s : State) (v : Byte) : State := { s with f := v &&& 0xF0#8 }

/-- `xx[BC]` (R21). -/
def bcOf (s : State) : Word := wordOf s.b s.c

/-- `xx[DE]` (R21). -/
def deOf (s : State) : Word := wordOf s.d s.e

/-- `xx[HL]` (R21). -/
def hlOf (s : State) : Word := wordOf s.h s.l

/-- `xx[AF]` (R21, R23). -/
def afOf (s : State) : Word := wordOf s.a (readF s)

/-- `xx[BC] <- v` (R21). -/
def setBc (s : State) (v : Word) : State := { s with b := hiByte v, c := loByte v }

/-- `xx[DE] <- v` (R21). -/
def setDe (s : State) (v : Word) : State := { s with d := hiByte v, e := loByte v }

/-- `xx[HL] <- v` (R21). -/
def setHl (s : State) (v : Word) : State := { s with h := hiByte v, l := loByte v }

/-- `xx[AF] <- v`, the write to F masked (R21, R23). -/
def setAf (s : State) (v : Word) : State := writeF { s with a := hiByte v } (loByte v)

/-- `xx[rr]`, table `rp` (R103). -/
def readPair (s : State) : RegPair → Word
  | .bc => bcOf s
  | .de => deOf s
  | .hl => hlOf s
  | .sp => s.sp

/-- `xx[rr] <- v`, table `rp` (R103). -/
def writePair (s : State) (rr : RegPair) (v : Word) : State :=
  match rr with
  | .bc => setBc s v
  | .de => setDe s v
  | .hl => setHl s v
  | .sp => { s with sp := v }

/-- `xx[rr]`, table `rp2` (R103). -/
def readStackPair (s : State) : StackPair → Word
  | .bc => bcOf s
  | .de => deOf s
  | .hl => hlOf s
  | .af => afOf s

/-- `xx[rr] <- v`, table `rp2` (R103). -/
def writeStackPair (s : State) (rr : StackPair) (v : Word) : State :=
  match rr with
  | .bc => setBc s v
  | .de => setDe s v
  | .hl => setHl s v
  | .af => setAf s v

/-! ### Timed accesses: the access first, then the four dots of its cycle (R10, R291) -/

/-- `MemRead(addr, 1)`: the byte and the state after its cycle. -/
def memRead (s : State) (a : Word) : Byte × State := (busRead s a, advance 1 (afterRead s a))

/-- `MemWrite(addr, 1, v)`. -/
def memWrite (s : State) (a : Word) (v : Byte) : State := advance 1 (busWrite s a v)

/-- `MemWrite(addr, 2, v)`: the low byte first, at the lower address (R10, R75, R151). -/
def memWrite16 (s : State) (a : Word) (v : Word) : State :=
  memWrite (memWrite s a (loByte v)) (a + 1) (hiByte v)

/-- `Internal()`: a cycle with no bus access. -/
def internal (s : State) : State := advance 1 s

/-- `Internal()`, `n` times. -/
def internals (n : Nat) (s : State) : State := advance n s

/-- `Fetch8()`: the byte at PC; PC steps modulo 2^16 (R10, R24). -/
def fetch8 (s : State) : Byte × State :=
  let r := memRead s s.pc
  (r.1, { r.2 with pc := r.2.pc + 1 })

/-- `Fetch16()`: low byte first (R10, R73). -/
def fetch16 (s : State) : Word × State :=
  let lo := fetch8 s
  let hi := fetch8 lo.2
  (wordOf hi.1 lo.1, hi.2)

/-! ### The stack -/

/-- One line of `Push16`: decrement SP, write a byte there (R153). -/
def pushByte (s : State) (v : Byte) : State := memWrite { s with sp := s.sp - 1 } (s.sp - 1) v

/-- `Push16(v)`: the high byte at SP − 1, then the low byte at SP − 2 (R153). -/
def push16 (s : State) (v : Word) : State := pushByte (pushByte s (hiByte v)) (loByte v)

/-- One line of `Pop16`: read the byte at SP, increment SP (R154). -/
def popByte (s : State) : Byte × State :=
  let r := memRead s s.sp
  (r.1, { r.2 with sp := r.2.sp + 1 })

/-- `Pop16()`: low byte first (R154). -/
def pop16 (s : State) : Word × State :=
  let lo := popByte s
  let hi := popByte lo.2
  (wordOf hi.1 lo.1, hi.2)

/-! ### Exceptions -/

/-- `raise Fatal(opcode, at)`: "fatal <- true" for good, with the diagnostic record (R360, R277). -/
def raiseFatal (s : State) (opcode : Byte) (at' : Word) : State :=
  { s with fatal := true, fatalInfo := some { opcode := opcode, addr := at', ticks := s.ticks } }

/-- The lines of `Dispatch(k)` after the push: the enables cleared, PC at the vector, the source's bit cleared (R370). -/
def enterHandler (s : State) (k : Source) : State :=
  { s with ime := false, imePending := false, pc := sourceVector k, intf := s.intf &&& ~~~ sourceMask k }

/-- `Dispatch(k)`: taking an interrupt (R370). -/
def dispatchInterrupt (s : State) (k : Source) : State :=
  let t := internals s.params.intLeadTicks s
  let u := enterHandler (push16 t t.pc) k
  { internals s.params.intTailTicks u with halted := false }

/-- The return from an interrupt (R371, R260): pop PC, set IME at once, one internal cycle. -/
def returnFromInterrupt (s : State) : State :=
  let r := pop16 s
  internal { r.2 with pc := r.1, ime := true }

/-- Part 3 of `Step`: the interrupt check (R270, R366). -/
def interruptCheck (s : State) : State :=
  if s.ime then
    match selectSource (pendingMask s) with
    | some k => dispatchInterrupt s k
    | none => s
  else s

/-- The promotion of the delayed enable, the last act of a step (R270). -/
def promoteEnable (s : State) : State :=
  if s.imePending then { s with ime := true, imePending := false } else s

/-- What ends every step that did not raise Fatal: the check, then the promotion (R270). -/
def endOfStep (s : State) : State := promoteEnable (interruptCheck s)

/-- The halted branch of `Step`: one cycle, then wake on a pending enabled source (R270, R373). -/
def haltedTick (s : State) : State :=
  let t := advance 1 s
  if pendingMask t ≠ 0 then { t with halted := false } else t

end Sys2Proof.Machine
end

