-- ==== Sys2Proof/Machine/Flags.lean ====
section
/-! DEFINITION. The flags, the flag laws, the ALU and shifter functions and the conditions
(spec/10_state.md R23; spec/42_alu8.md R160, R161, R190; spec/44_rotate_shift_bit.md R214; spec/45_control.md R250). -/

namespace Sys2Proof.Machine

/-- The zero flag, F[7] (R23). -/
def flagZ (s : State) : Bool := s.f.getLsbD 7

/-- The subtract flag, F[6] (R23). -/
def flagN (s : State) : Bool := s.f.getLsbD 6

/-- The half-carry flag, F[5] (R23). -/
def flagH (s : State) : Bool := s.f.getLsbD 5

/-- The carry flag, F[4] (R23). -/
def flagC (s : State) : Bool := s.f.getLsbD 4

/-- `Z ++ N ++ H ++ C ++ 0b0000` (R23). -/
def packFlags (z n h c : Bool) : Byte :=
  (if z then 0x80#8 else 0#8) ||| (if n then 0x40#8 else 0#8) ||| (if h then 0x20#8 else 0#8) |||
    (if c then 0x10#8 else 0#8)

/-- `flags <- (z, n, h, c)`; `none` is the `-` that leaves a flag unchanged (R10). -/
def setFlags (s : State) (z n h c : Option Bool) : State :=
  writeF s (packFlags (z.getD (flagZ s)) (n.getD (flagN s)) (h.getD (flagH s)) (c.getD (flagC s)))

/-- What an ALU function returns: the result and the four flags. -/
structure AluResult where
  result : Byte
  z : Bool
  n : Bool
  h : Bool
  c : Bool
  deriving DecidableEq, Repr

/-- `add8(a, b, cin)` (R161). -/
def add8 (a b : Byte) (cin : Bool) : AluResult where
  result := BitVec.ofNat 8 (a.toNat + b.toNat + cin.toNat)
  z := decide ((a.toNat + b.toNat + cin.toNat) % 256 = 0)
  n := false
  h := decide (0xF < a.toNat % 16 + b.toNat % 16 + cin.toNat)
  c := decide (0xFF < a.toNat + b.toNat + cin.toNat)

/-- `sub8(a, b, cin)`: the difference is an integer that may be negative (R161). -/
def sub8 (a b : Byte) (cin : Bool) : AluResult :=
  let d : Int := (a.toNat : Int) - b.toNat - cin.toNat
  { result := BitVec.ofInt 8 d
    z := decide (d % 256 = 0)
    n := true
    h := decide (((a.toNat % 16 : Nat) : Int) - (b.toNat % 16 : Nat) - cin.toNat < 0)
    c := decide (d < 0) }

/-- `and8(a, b)` (R161). -/
def and8 (a b : Byte) : AluResult where
  result := a &&& b
  z := decide (a &&& b = 0)
  n := false
  h := true
  c := false

/-- `xor8(a, b)` (R161). -/
def xor8 (a b : Byte) : AluResult where
  result := a ^^^ b
  z := decide (a ^^^ b = 0)
  n := false
  h := false
  c := false

/-- `or8(a, b)` (R161). -/
def or8 (a b : Byte) : AluResult where
  result := a ||| b
  z := decide (a ||| b = 0)
  n := false
  h := false
  c := false

/-- The ALU operation of table `alu` on the accumulator `a`, the operand `b` and the carry flag (R162 to R185). -/
def aluFn (op : AluOp) (a b : Byte) (carry : Bool) : AluResult :=
  match op with
  | .add => add8 a b false
  | .adc => add8 a b carry
  | .sub => sub8 a b false
  | .sbc => sub8 a b carry
  | .and => and8 a b
  | .xor => xor8 a b
  | .or => or8 a b
  | .cp => sub8 a b false

/-- `r' <- (v + 1) mod 256` with its flags; C is not written (R186). -/
def incByte (v : Byte) : Byte := v + 1

/-- `r' <- (v - 1) mod 256` (R188). -/
def decByte (v : Byte) : Byte := v - 1

/-- The flags of an increment: `(r' == 0, 0, v[3:0] == 0xF, -)` (R186). -/
def setIncFlags (s : State) (v : Byte) : State :=
  setFlags s (some (decide (incByte v = 0))) (some false) (some (decide (v.toNat % 16 = 0xF))) none

/-- The flags of a decrement: `(r' == 0, 1, v[3:0] == 0x0, -)` (R188). -/
def setDecFlags (s : State) (v : Byte) : State :=
  setFlags s (some (decide (decByte v = 0))) (some true) (some (decide (v.toNat % 16 = 0))) none

/-- The low correction of DAA: `flag.H or (not flag.N and a[3:0] > 9)` (R190). -/
def daaLow (a : Byte) (n h : Bool) : Bool := h || (!n && decide (9 < a.toNat % 16))

/-- The high correction of DAA, and its carry: `flag.C or (not flag.N and a > 0x99)` (R190). -/
def daaHigh (a : Byte) (n c : Bool) : Bool := c || (!n && decide (0x99 < a.toNat))

/-- `adj` (R190). -/
def daaAdjust (a : Byte) (n h c : Bool) : Byte :=
  (if daaLow a n h then 0x06#8 else 0#8) ||| (if daaHigh a n c then 0x60#8 else 0#8)

/-- `a'`: subtract the correction after a subtraction, add it otherwise (R190). -/
def daaResult (a : Byte) (n h c : Bool) : Byte := if n then a - daaAdjust a n h c else a + daaAdjust a n h c

/-- What a shifter function returns: the result and the carry-out. -/
structure ShiftResult where
  result : Byte
  c : Bool
  deriving DecidableEq, Repr

/-- `rlc(v)` (R214). -/
def rlc8 (v : Byte) : ShiftResult := ⟨v.extractLsb' 0 7 ++ v.extractLsb' 7 1, v.getLsbD 7⟩

/-- `rrc(v)` (R214). -/
def rrc8 (v : Byte) : ShiftResult := ⟨v.extractLsb' 0 1 ++ v.extractLsb' 1 7, v.getLsbD 0⟩

/-- `rl(v, cin)` (R214). -/
def rl8 (v : Byte) (cin : Bool) : ShiftResult := ⟨v.extractLsb' 0 7 ++ BitVec.ofBool cin, v.getLsbD 7⟩

/-- `rr(v, cin)` (R214). -/
def rr8 (v : Byte) (cin : Bool) : ShiftResult := ⟨BitVec.ofBool cin ++ v.extractLsb' 1 7, v.getLsbD 0⟩

/-- `sla(v)` (R214). -/
def sla8 (v : Byte) : ShiftResult := ⟨v.extractLsb' 0 7 ++ 0#1, v.getLsbD 7⟩

/-- `sra(v)` (R214). -/
def sra8 (v : Byte) : ShiftResult := ⟨v.extractLsb' 7 1 ++ v.extractLsb' 1 7, v.getLsbD 0⟩

/-- `swap(v)` (R214). -/
def swap8 (v : Byte) : ShiftResult := ⟨v.extractLsb' 0 4 ++ v.extractLsb' 4 4, false⟩

/-- `srl(v)` (R214). -/
def srl8 (v : Byte) : ShiftResult := ⟨0#1 ++ v.extractLsb' 1 7, v.getLsbD 0⟩

/-- The shifter function of table `rot`; `cin` is the carry flag, used by RL and RR only (R103, R214). -/
def shiftFn (op : ShiftOp) (v : Byte) (cin : Bool) : ShiftResult :=
  match op with
  | .rlc => rlc8 v
  | .rrc => rrc8 v
  | .rl => rl8 v cin
  | .rr => rr8 v cin
  | .sla => sla8 v
  | .sra => sra8 v
  | .swap => swap8 v
  | .srl => srl8 v

/-- `v & ~(1 << b)` (R233). -/
def clearBit (v : Byte) (b : Nat) : Byte := v &&& ~~~ (1#8 <<< b)

/-- `v | (1 << b)` (R235). -/
def setBit (v : Byte) (b : Nat) : Byte := v ||| (1#8 <<< b)

/-- The flags of a bit test: `(v[b] == 0, 0, 1, -)` (R231). -/
def setBitTestFlags (s : State) (v : Byte) (b : Nat) : State :=
  setFlags s (some (!v.getLsbD b)) (some false) (some true) none

/-- Half-carry of a 16-bit addition: the carry out of bit 11 (R160, R200). -/
def halfCarry16 (a b : Word) : Bool := decide (0x0FFF < a.toNat % 4096 + b.toNat % 4096)

/-- Carry of a 16-bit addition: the carry out of bit 15 (R160, R200). -/
def carry16 (a b : Word) : Bool := decide (0xFFFF < a.toNat + b.toNat)

/-- The flags of `SP+e8`: Z and N clear, H and C from the unsigned addition of SP's low byte and the raw byte
(R155, R203). -/
def setSpRelFlags (s : State) (e : Byte) : State :=
  setFlags s (some false) (some false) (some (decide (0xF < s.sp.toNat % 16 + e.toNat % 16)))
    (some (decide (0xFF < s.sp.toNat % 256 + e.toNat)))

/-- `cond(cc)` (R250). -/
def condHolds (s : State) : Cond → Bool
  | .nz => !flagZ s
  | .z => flagZ s
  | .nc => !flagC s
  | .c => flagC s

end Sys2Proof.Machine
end

