-- ==== Sys2Proof/Machine/Operands.lean ====
section
/-! DEFINITION. The operand forms of spec/30_encoding.md R106 as shared operations. The immediates `n8`, `n16` and `e8`
are fetched by the step before the operation runs, since every operation fetches all of its operand bytes before it
does anything else; what a form does after that stands here. -/

namespace Sys2Proof.Machine

/-- The effective address of the high page: `0xFF00 + zext_16(o)` (R105, R106). -/
def highPage (o : Byte) : Word := 0xFF00#16 + o.zeroExtend 16

/-- The SP-relative value `sp + sext_16(e8)` modulo 2^16 (R106, R155). -/
def spRelative (s : State) (e : Byte) : Word := s.sp + sext16 e

/-- The target of a relative jump, from the PC already past the displacement (R254, R24). -/
def relativeTarget (s : State) (e : Byte) : Word := s.pc + sext16 e

/-- A register destination from a memory byte: read `a`, then write the register. -/
def loadReg (s : State) (r : Reg8) (a : Word) : State :=
  let v := memRead s a
  writeReg v.2 r v.1

/-- A memory destination from a register: write it at `a`. -/
def storeReg (s : State) (r : Reg8) (a : Word) : State := memWrite s a (readReg s r)

/-- Indirect post-increment: HL steps up after the access (R106). -/
def bumpHl (s : State) : State := setHl s (hlOf s + 1)

/-- Indirect post-decrement: HL steps down after the access (R106). -/
def dropHl (s : State) : State := setHl s (hlOf s - 1)

/-- Read-modify-write of the byte at HL: one cycle reads it, the next writes `g v` (R75). The answer is the byte read
and the state after the write. -/
def modifyHl (s : State) (g : Byte → Byte) : Byte × State :=
  let v := memRead s (hlOf s)
  (v.1, memWrite v.2 (hlOf v.2) (g v.1))

end Sys2Proof.Machine
end

