-- ==== Sys2Proof/Machine/Load8.lean ====
section
/-! DEFINITION. Meanings: 8-bit loads (spec/40_load8.md R130 to R148). No instruction here changes a flag. -/

namespace Sys2Proof.Machine

/-- `x[r] <- x[r']` (R130). -/
def ldReg (s : State) (dst src : Reg8) : State := writeReg s dst (readReg s src)

/-- LD (BC),A (R137). -/
def execLdAtBcA (s : State) : Result := .next (storeReg s .a (bcOf s))

/-- LD B,n8 (R131). -/
def execLdBN8 (n : Byte) (s : State) : Result := .next (writeReg s .b n)

/-- LD A,(BC) (R135). -/
def execLdAAtBc (s : State) : Result := .next (loadReg s .a (bcOf s))

/-- LD C,n8 (R131). -/
def execLdCN8 (n : Byte) (s : State) : Result := .next (writeReg s .c n)

/-- LD (DE),A (R138). -/
def execLdAtDeA (s : State) : Result := .next (storeReg s .a (deOf s))

/-- LD D,n8 (R131). -/
def execLdDN8 (n : Byte) (s : State) : Result := .next (writeReg s .d n)

/-- LD A,(DE) (R136). -/
def execLdAAtDe (s : State) : Result := .next (loadReg s .a (deOf s))

/-- LD E,n8 (R131). -/
def execLdEN8 (n : Byte) (s : State) : Result := .next (writeReg s .e n)

/-- LD (HL+),A (R148). -/
def execLdAtHlIncA (s : State) : Result := .next (bumpHl (storeReg s .a (hlOf s)))

/-- LD H,n8 (R131). -/
def execLdHN8 (n : Byte) (s : State) : Result := .next (writeReg s .h n)

/-- LD A,(HL+) (R147). -/
def execLdAAtHlInc (s : State) : Result := .next (bumpHl (loadReg s .a (hlOf s)))

/-- LD L,n8 (R131). -/
def execLdLN8 (n : Byte) (s : State) : Result := .next (writeReg s .l n)

/-- LD (HL-),A (R146). -/
def execLdAtHlDecA (s : State) : Result := .next (dropHl (storeReg s .a (hlOf s)))

/-- LD (HL),n8 (R134). -/
def execLdAtHlN8 (n : Byte) (s : State) : Result := .next (memWrite s (hlOf s) n)

/-- LD A,(HL-) (R145). -/
def execLdAAtHlDec (s : State) : Result := .next (dropHl (loadReg s .a (hlOf s)))

/-- LD A,n8 (R131). -/
def execLdAN8 (n : Byte) (s : State) : Result := .next (writeReg s .a n)

/-- LD B,B (R130). -/
def execLdBB (s : State) : Result := .next (ldReg s .b .b)

/-- LD B,C (R130). -/
def execLdBC (s : State) : Result := .next (ldReg s .b .c)

/-- LD B,D (R130). -/
def execLdBD (s : State) : Result := .next (ldReg s .b .d)

/-- LD B,E (R130). -/
def execLdBE (s : State) : Result := .next (ldReg s .b .e)

/-- LD B,H (R130). -/
def execLdBH (s : State) : Result := .next (ldReg s .b .h)

/-- LD B,L (R130). -/
def execLdBL (s : State) : Result := .next (ldReg s .b .l)

/-- LD B,(HL) (R132). -/
def execLdBAtHl (s : State) : Result := .next (loadReg s .b (hlOf s))

/-- LD B,A (R130). -/
def execLdBA (s : State) : Result := .next (ldReg s .b .a)

/-- LD C,B (R130). -/
def execLdCB (s : State) : Result := .next (ldReg s .c .b)

/-- LD C,C (R130). -/
def execLdCC (s : State) : Result := .next (ldReg s .c .c)

/-- LD C,D (R130). -/
def execLdCD (s : State) : Result := .next (ldReg s .c .d)

/-- LD C,E (R130). -/
def execLdCE (s : State) : Result := .next (ldReg s .c .e)

/-- LD C,H (R130). -/
def execLdCH (s : State) : Result := .next (ldReg s .c .h)

/-- LD C,L (R130). -/
def execLdCL (s : State) : Result := .next (ldReg s .c .l)

/-- LD C,(HL) (R132). -/
def execLdCAtHl (s : State) : Result := .next (loadReg s .c (hlOf s))

/-- LD C,A (R130). -/
def execLdCA (s : State) : Result := .next (ldReg s .c .a)

/-- LD D,B (R130). -/
def execLdDB (s : State) : Result := .next (ldReg s .d .b)

/-- LD D,C (R130). -/
def execLdDC (s : State) : Result := .next (ldReg s .d .c)

/-- LD D,D (R130). -/
def execLdDD (s : State) : Result := .next (ldReg s .d .d)

/-- LD D,E (R130). -/
def execLdDE (s : State) : Result := .next (ldReg s .d .e)

/-- LD D,H (R130). -/
def execLdDH (s : State) : Result := .next (ldReg s .d .h)

/-- LD D,L (R130). -/
def execLdDL (s : State) : Result := .next (ldReg s .d .l)

/-- LD D,(HL) (R132). -/
def execLdDAtHl (s : State) : Result := .next (loadReg s .d (hlOf s))

/-- LD D,A (R130). -/
def execLdDA (s : State) : Result := .next (ldReg s .d .a)

/-- LD E,B (R130). -/
def execLdEB (s : State) : Result := .next (ldReg s .e .b)

/-- LD E,C (R130). -/
def execLdEC (s : State) : Result := .next (ldReg s .e .c)

/-- LD E,D (R130). -/
def execLdED (s : State) : Result := .next (ldReg s .e .d)

/-- LD E,E (R130). -/
def execLdEE (s : State) : Result := .next (ldReg s .e .e)

/-- LD E,H (R130). -/
def execLdEH (s : State) : Result := .next (ldReg s .e .h)

/-- LD E,L (R130). -/
def execLdEL (s : State) : Result := .next (ldReg s .e .l)

/-- LD E,(HL) (R132). -/
def execLdEAtHl (s : State) : Result := .next (loadReg s .e (hlOf s))

/-- LD E,A (R130). -/
def execLdEA (s : State) : Result := .next (ldReg s .e .a)

/-- LD H,B (R130). -/
def execLdHB (s : State) : Result := .next (ldReg s .h .b)

/-- LD H,C (R130). -/
def execLdHC (s : State) : Result := .next (ldReg s .h .c)

/-- LD H,D (R130). -/
def execLdHD (s : State) : Result := .next (ldReg s .h .d)

/-- LD H,E (R130). -/
def execLdHE (s : State) : Result := .next (ldReg s .h .e)

/-- LD H,H (R130). -/
def execLdHH (s : State) : Result := .next (ldReg s .h .h)

/-- LD H,L (R130). -/
def execLdHL (s : State) : Result := .next (ldReg s .h .l)

/-- LD H,(HL) (R132). -/
def execLdHAtHl (s : State) : Result := .next (loadReg s .h (hlOf s))

/-- LD H,A (R130). -/
def execLdHA (s : State) : Result := .next (ldReg s .h .a)

/-- LD L,B (R130). -/
def execLdLB (s : State) : Result := .next (ldReg s .l .b)

/-- LD L,C (R130). -/
def execLdLC (s : State) : Result := .next (ldReg s .l .c)

/-- LD L,D (R130). -/
def execLdLD (s : State) : Result := .next (ldReg s .l .d)

/-- LD L,E (R130). -/
def execLdLE (s : State) : Result := .next (ldReg s .l .e)

/-- LD L,H (R130). -/
def execLdLH (s : State) : Result := .next (ldReg s .l .h)

/-- LD L,L (R130). -/
def execLdLL (s : State) : Result := .next (ldReg s .l .l)

/-- LD L,(HL) (R132). -/
def execLdLAtHl (s : State) : Result := .next (loadReg s .l (hlOf s))

/-- LD L,A (R130). -/
def execLdLA (s : State) : Result := .next (ldReg s .l .a)

/-- LD (HL),B (R133). -/
def execLdAtHlB (s : State) : Result := .next (storeReg s .b (hlOf s))

/-- LD (HL),C (R133). -/
def execLdAtHlC (s : State) : Result := .next (storeReg s .c (hlOf s))

/-- LD (HL),D (R133). -/
def execLdAtHlD (s : State) : Result := .next (storeReg s .d (hlOf s))

/-- LD (HL),E (R133). -/
def execLdAtHlE (s : State) : Result := .next (storeReg s .e (hlOf s))

/-- LD (HL),H (R133). -/
def execLdAtHlH (s : State) : Result := .next (storeReg s .h (hlOf s))

/-- LD (HL),L (R133). -/
def execLdAtHlL (s : State) : Result := .next (storeReg s .l (hlOf s))

/-- LD (HL),A (R133). -/
def execLdAtHlA (s : State) : Result := .next (storeReg s .a (hlOf s))

/-- LD A,B (R130). -/
def execLdAB (s : State) : Result := .next (ldReg s .a .b)

/-- LD A,C (R130). -/
def execLdAC (s : State) : Result := .next (ldReg s .a .c)

/-- LD A,D (R130). -/
def execLdAD (s : State) : Result := .next (ldReg s .a .d)

/-- LD A,E (R130). -/
def execLdAE (s : State) : Result := .next (ldReg s .a .e)

/-- LD A,H (R130). -/
def execLdAH (s : State) : Result := .next (ldReg s .a .h)

/-- LD A,L (R130). -/
def execLdAL (s : State) : Result := .next (ldReg s .a .l)

/-- LD A,(HL) (R132). -/
def execLdAAtHl (s : State) : Result := .next (loadReg s .a (hlOf s))

/-- LD A,A (R130). -/
def execLdAA (s : State) : Result := .next (ldReg s .a .a)

/-- LDH (n8),A (R144). -/
def execLdhAtN8A (n : Byte) (s : State) : Result := .next (storeReg s .a (highPage n))

/-- LDH (C),A (R142). -/
def execLdhAtCA (s : State) : Result := .next (storeReg s .a (highPage s.c))

/-- LD (n16),A (R140). -/
def execLdAtN16A (n : Word) (s : State) : Result := .next (storeReg s .a n)

/-- LDH A,(n8) (R143). -/
def execLdhAAtN8 (n : Byte) (s : State) : Result := .next (loadReg s .a (highPage n))

/-- LDH A,(C) (R141). -/
def execLdhAAtC (s : State) : Result := .next (loadReg s .a (highPage s.c))

/-- LD A,(n16) (R139). -/
def execLdAAtN16 (n : Word) (s : State) : Result := .next (loadReg s .a n)

end Sys2Proof.Machine
end

