-- ==== Sys2Proof/Machine/Load16.lean ====
section
/-! DEFINITION. Meanings: 16-bit loads and the stack (spec/41_load16_stack.md R150 to R155). -/

namespace Sys2Proof.Machine

/-- `PUSH rr`: an internal cycle, then the pair (R153). -/
def pushPair (s : State) (rr : StackPair) : State := push16 (internal s) (readStackPair s rr)

/-- `POP rr` (R154). -/
def popPair (s : State) (rr : StackPair) : State :=
  let r := pop16 s
  writeStackPair r.2 rr r.1

/-- LD BC,n16 (R150). -/
def execLdBcN16 (n : Word) (s : State) : Result := .next (writePair s .bc n)

/-- LD (n16),SP (R151). -/
def execLdAtN16Sp (n : Word) (s : State) : Result := .next (memWrite16 s n s.sp)

/-- LD DE,n16 (R150). -/
def execLdDeN16 (n : Word) (s : State) : Result := .next (writePair s .de n)

/-- LD HL,n16 (R150). -/
def execLdHlN16 (n : Word) (s : State) : Result := .next (writePair s .hl n)

/-- LD SP,n16 (R150). -/
def execLdSpN16 (n : Word) (s : State) : Result := .next (writePair s .sp n)

/-- POP BC (R154). -/
def execPopBc (s : State) : Result := .next (popPair s .bc)

/-- PUSH BC (R153). -/
def execPushBc (s : State) : Result := .next (pushPair s .bc)

/-- POP DE (R154). -/
def execPopDe (s : State) : Result := .next (popPair s .de)

/-- PUSH DE (R153). -/
def execPushDe (s : State) : Result := .next (pushPair s .de)

/-- POP HL (R154). -/
def execPopHl (s : State) : Result := .next (popPair s .hl)

/-- PUSH HL (R153). -/
def execPushHl (s : State) : Result := .next (pushPair s .hl)

/-- POP AF (R154). -/
def execPopAf (s : State) : Result := .next (popPair s .af)

/-- PUSH AF (R153). -/
def execPushAf (s : State) : Result := .next (pushPair s .af)

/-- LD HL,SP+e8 (R155). -/
def execLdHlSpE8 (e : Byte) (s : State) : Result := .next (internal (setSpRelFlags (setHl s (spRelative s e)) e))

/-- LD SP,HL (R152). -/
def execLdSpHl (s : State) : Result := .next (internal { s with sp := hlOf s })

end Sys2Proof.Machine
end

