-- ==== Sys2Proof/Machine/Alu8.lean ====
section
/-! DEFINITION. Meanings: 8-bit arithmetic and logic (spec/42_alu8.md R160 to R193). -/

namespace Sys2Proof.Machine

/-- A two-operand accumulator instruction on the operand byte `b`: result to A (CP stores none), all four flags
(R162 to R185). -/
def aluAcc (s : State) (op : AluOp) (b : Byte) : State :=
  let r := aluFn op s.a b (flagC s)
  setFlags (if op = .cp then s else { s with a := r.result }) (some r.z) (some r.n) (some r.h) (some r.c)

/-- The same on the memory byte at HL, read once (R163 and the like). -/
def aluHlByte (s : State) (op : AluOp) : State :=
  let v := memRead s (hlOf s)
  aluAcc v.2 op v.1

/-- `INC r` (R186). -/
def incReg8 (s : State) (r : Reg8) : State := setIncFlags (writeReg s r (incByte (readReg s r))) (readReg s r)

/-- `DEC r` (R188). -/
def decReg8 (s : State) (r : Reg8) : State := setDecFlags (writeReg s r (decByte (readReg s r))) (readReg s r)

/-- `INC (HL)`: the flags are those of the byte read (R187). -/
def incHlByte (s : State) : State :=
  let w := modifyHl s incByte
  setIncFlags w.2 w.1

/-- `DEC (HL)` (R189). -/
def decHlByte (s : State) : State :=
  let w := modifyHl s decByte
  setDecFlags w.2 w.1

/-- `DAA`: both tests read A from before; N unchanged, H cleared (R190). -/
def decimalAdjust (s : State) : State :=
  let r := daaResult s.a (flagN s) (flagH s) (flagC s)
  setFlags { s with a := r } (some (decide (r = 0))) none (some false) (some (daaHigh s.a (flagN s) (flagC s)))

/-- INC B (R186). -/
def execIncB (s : State) : Result := .next (incReg8 s .b)

/-- DEC B (R188). -/
def execDecB (s : State) : Result := .next (decReg8 s .b)

/-- INC C (R186). -/
def execIncC (s : State) : Result := .next (incReg8 s .c)

/-- DEC C (R188). -/
def execDecC (s : State) : Result := .next (decReg8 s .c)

/-- INC D (R186). -/
def execIncD (s : State) : Result := .next (incReg8 s .d)

/-- DEC D (R188). -/
def execDecD (s : State) : Result := .next (decReg8 s .d)

/-- INC E (R186). -/
def execIncE (s : State) : Result := .next (incReg8 s .e)

/-- DEC E (R188). -/
def execDecE (s : State) : Result := .next (decReg8 s .e)

/-- INC H (R186). -/
def execIncH (s : State) : Result := .next (incReg8 s .h)

/-- DEC H (R188). -/
def execDecH (s : State) : Result := .next (decReg8 s .h)

/-- DAA (R190). -/
def execDaa (s : State) : Result := .next (decimalAdjust s)

/-- INC L (R186). -/
def execIncL (s : State) : Result := .next (incReg8 s .l)

/-- DEC L (R188). -/
def execDecL (s : State) : Result := .next (decReg8 s .l)

/-- CPL (R191). -/
def execCpl (s : State) : Result := .next (setFlags { s with a := ~~~ s.a } none (some true) (some true) none)

/-- INC (HL) (R187). -/
def execIncAtHl (s : State) : Result := .next (incHlByte s)

/-- DEC (HL) (R189). -/
def execDecAtHl (s : State) : Result := .next (decHlByte s)

/-- SCF (R192). -/
def execScf (s : State) : Result := .next (setFlags s none (some false) (some false) (some true))

/-- INC A (R186). -/
def execIncA (s : State) : Result := .next (incReg8 s .a)

/-- DEC A (R188). -/
def execDecA (s : State) : Result := .next (decReg8 s .a)

/-- CCF (R193). -/
def execCcf (s : State) : Result := .next (setFlags s none (some false) (some false) (some (!flagC s)))

/-- ADD A,B (R162). -/
def execAddAB (s : State) : Result := .next (aluAcc s .add (readReg s .b))

/-- ADD A,C (R162). -/
def execAddAC (s : State) : Result := .next (aluAcc s .add (readReg s .c))

/-- ADD A,D (R162). -/
def execAddAD (s : State) : Result := .next (aluAcc s .add (readReg s .d))

/-- ADD A,E (R162). -/
def execAddAE (s : State) : Result := .next (aluAcc s .add (readReg s .e))

/-- ADD A,H (R162). -/
def execAddAH (s : State) : Result := .next (aluAcc s .add (readReg s .h))

/-- ADD A,L (R162). -/
def execAddAL (s : State) : Result := .next (aluAcc s .add (readReg s .l))

/-- ADD A,(HL) (R163). -/
def execAddAAtHl (s : State) : Result := .next (aluHlByte s .add)

/-- ADD A,A (R162). -/
def execAddAA (s : State) : Result := .next (aluAcc s .add (readReg s .a))

/-- ADC A,B (R165). -/
def execAdcAB (s : State) : Result := .next (aluAcc s .adc (readReg s .b))

/-- ADC A,C (R165). -/
def execAdcAC (s : State) : Result := .next (aluAcc s .adc (readReg s .c))

/-- ADC A,D (R165). -/
def execAdcAD (s : State) : Result := .next (aluAcc s .adc (readReg s .d))

/-- ADC A,E (R165). -/
def execAdcAE (s : State) : Result := .next (aluAcc s .adc (readReg s .e))

/-- ADC A,H (R165). -/
def execAdcAH (s : State) : Result := .next (aluAcc s .adc (readReg s .h))

/-- ADC A,L (R165). -/
def execAdcAL (s : State) : Result := .next (aluAcc s .adc (readReg s .l))

/-- ADC A,(HL) (R166). -/
def execAdcAAtHl (s : State) : Result := .next (aluHlByte s .adc)

/-- ADC A,A (R165). -/
def execAdcAA (s : State) : Result := .next (aluAcc s .adc (readReg s .a))

/-- SUB B (R168). -/
def execSubB (s : State) : Result := .next (aluAcc s .sub (readReg s .b))

/-- SUB C (R168). -/
def execSubC (s : State) : Result := .next (aluAcc s .sub (readReg s .c))

/-- SUB D (R168). -/
def execSubD (s : State) : Result := .next (aluAcc s .sub (readReg s .d))

/-- SUB E (R168). -/
def execSubE (s : State) : Result := .next (aluAcc s .sub (readReg s .e))

/-- SUB H (R168). -/
def execSubH (s : State) : Result := .next (aluAcc s .sub (readReg s .h))

/-- SUB L (R168). -/
def execSubL (s : State) : Result := .next (aluAcc s .sub (readReg s .l))

/-- SUB (HL) (R169). -/
def execSubAtHl (s : State) : Result := .next (aluHlByte s .sub)

/-- SUB A (R168). -/
def execSubA (s : State) : Result := .next (aluAcc s .sub (readReg s .a))

/-- SBC A,B (R171). -/
def execSbcAB (s : State) : Result := .next (aluAcc s .sbc (readReg s .b))

/-- SBC A,C (R171). -/
def execSbcAC (s : State) : Result := .next (aluAcc s .sbc (readReg s .c))

/-- SBC A,D (R171). -/
def execSbcAD (s : State) : Result := .next (aluAcc s .sbc (readReg s .d))

/-- SBC A,E (R171). -/
def execSbcAE (s : State) : Result := .next (aluAcc s .sbc (readReg s .e))

/-- SBC A,H (R171). -/
def execSbcAH (s : State) : Result := .next (aluAcc s .sbc (readReg s .h))

/-- SBC A,L (R171). -/
def execSbcAL (s : State) : Result := .next (aluAcc s .sbc (readReg s .l))

/-- SBC A,(HL) (R172). -/
def execSbcAAtHl (s : State) : Result := .next (aluHlByte s .sbc)

/-- SBC A,A (R171). -/
def execSbcAA (s : State) : Result := .next (aluAcc s .sbc (readReg s .a))

/-- AND B (R174). -/
def execAndB (s : State) : Result := .next (aluAcc s .and (readReg s .b))

/-- AND C (R174). -/
def execAndC (s : State) : Result := .next (aluAcc s .and (readReg s .c))

/-- AND D (R174). -/
def execAndD (s : State) : Result := .next (aluAcc s .and (readReg s .d))

/-- AND E (R174). -/
def execAndE (s : State) : Result := .next (aluAcc s .and (readReg s .e))

/-- AND H (R174). -/
def execAndH (s : State) : Result := .next (aluAcc s .and (readReg s .h))

/-- AND L (R174). -/
def execAndL (s : State) : Result := .next (aluAcc s .and (readReg s .l))

/-- AND (HL) (R175). -/
def execAndAtHl (s : State) : Result := .next (aluHlByte s .and)

/-- AND A (R174). -/
def execAndA (s : State) : Result := .next (aluAcc s .and (readReg s .a))

/-- XOR B (R177). -/
def execXorB (s : State) : Result := .next (aluAcc s .xor (readReg s .b))

/-- XOR C (R177). -/
def execXorC (s : State) : Result := .next (aluAcc s .xor (readReg s .c))

/-- XOR D (R177). -/
def execXorD (s : State) : Result := .next (aluAcc s .xor (readReg s .d))

/-- XOR E (R177). -/
def execXorE (s : State) : Result := .next (aluAcc s .xor (readReg s .e))

/-- XOR H (R177). -/
def execXorH (s : State) : Result := .next (aluAcc s .xor (readReg s .h))

/-- XOR L (R177). -/
def execXorL (s : State) : Result := .next (aluAcc s .xor (readReg s .l))

/-- XOR (HL) (R178). -/
def execXorAtHl (s : State) : Result := .next (aluHlByte s .xor)

/-- XOR A (R177). -/
def execXorA (s : State) : Result := .next (aluAcc s .xor (readReg s .a))

/-- OR B (R180). -/
def execOrB (s : State) : Result := .next (aluAcc s .or (readReg s .b))

/-- OR C (R180). -/
def execOrC (s : State) : Result := .next (aluAcc s .or (readReg s .c))

/-- OR D (R180). -/
def execOrD (s : State) : Result := .next (aluAcc s .or (readReg s .d))

/-- OR E (R180). -/
def execOrE (s : State) : Result := .next (aluAcc s .or (readReg s .e))

/-- OR H (R180). -/
def execOrH (s : State) : Result := .next (aluAcc s .or (readReg s .h))

/-- OR L (R180). -/
def execOrL (s : State) : Result := .next (aluAcc s .or (readReg s .l))

/-- OR (HL) (R181). -/
def execOrAtHl (s : State) : Result := .next (aluHlByte s .or)

/-- OR A (R180). -/
def execOrA (s : State) : Result := .next (aluAcc s .or (readReg s .a))

/-- CP B (R183). -/
def execCpB (s : State) : Result := .next (aluAcc s .cp (readReg s .b))

/-- CP C (R183). -/
def execCpC (s : State) : Result := .next (aluAcc s .cp (readReg s .c))

/-- CP D (R183). -/
def execCpD (s : State) : Result := .next (aluAcc s .cp (readReg s .d))

/-- CP E (R183). -/
def execCpE (s : State) : Result := .next (aluAcc s .cp (readReg s .e))

/-- CP H (R183). -/
def execCpH (s : State) : Result := .next (aluAcc s .cp (readReg s .h))

/-- CP L (R183). -/
def execCpL (s : State) : Result := .next (aluAcc s .cp (readReg s .l))

/-- CP (HL) (R184). -/
def execCpAtHl (s : State) : Result := .next (aluHlByte s .cp)

/-- CP A (R183). -/
def execCpA (s : State) : Result := .next (aluAcc s .cp (readReg s .a))

/-- ADD A,n8 (R164). -/
def execAddAN8 (n : Byte) (s : State) : Result := .next (aluAcc s .add n)

/-- ADC A,n8 (R167). -/
def execAdcAN8 (n : Byte) (s : State) : Result := .next (aluAcc s .adc n)

/-- SUB n8 (R170). -/
def execSubN8 (n : Byte) (s : State) : Result := .next (aluAcc s .sub n)

/-- SBC A,n8 (R173). -/
def execSbcAN8 (n : Byte) (s : State) : Result := .next (aluAcc s .sbc n)

/-- AND n8 (R176). -/
def execAndN8 (n : Byte) (s : State) : Result := .next (aluAcc s .and n)

/-- XOR n8 (R179). -/
def execXorN8 (n : Byte) (s : State) : Result := .next (aluAcc s .xor n)

/-- OR n8 (R182). -/
def execOrN8 (n : Byte) (s : State) : Result := .next (aluAcc s .or n)

/-- CP n8 (R185). -/
def execCpN8 (n : Byte) (s : State) : Result := .next (aluAcc s .cp n)

end Sys2Proof.Machine
end

