-- ==== Sys2Proof/Machine/Alu16.lean ====
section
/-! DEFINITION. Meanings: 16-bit arithmetic (spec/43_alu16.md R200 to R203). -/

namespace Sys2Proof.Machine

/-- `ADD HL,rr` with the pair's value `b`: Z unchanged, N clear, H and C from bits 11 and 15 (R200). -/
def addToHl (s : State) (b : Word) : State :=
  internal (setFlags (setHl s (hlOf s + b)) none (some false) (some (halfCarry16 (hlOf s) b)) (some (carry16 (hlOf s) b)))

/-- INC BC (R201). -/
def execIncBc (s : State) : Result := .next (internal (writePair s .bc (readPair s .bc + 1)))

/-- ADD HL,BC (R200). -/
def execAddHlBc (s : State) : Result := .next (addToHl s (readPair s .bc))

/-- DEC BC (R202). -/
def execDecBc (s : State) : Result := .next (internal (writePair s .bc (readPair s .bc - 1)))

/-- INC DE (R201). -/
def execIncDe (s : State) : Result := .next (internal (writePair s .de (readPair s .de + 1)))

/-- ADD HL,DE (R200). -/
def execAddHlDe (s : State) : Result := .next (addToHl s (readPair s .de))

/-- DEC DE (R202). -/
def execDecDe (s : State) : Result := .next (internal (writePair s .de (readPair s .de - 1)))

/-- INC HL (R201). -/
def execIncHl (s : State) : Result := .next (internal (writePair s .hl (readPair s .hl + 1)))

/-- ADD HL,HL (R200). -/
def execAddHlHl (s : State) : Result := .next (addToHl s (readPair s .hl))

/-- DEC HL (R202). -/
def execDecHl (s : State) : Result := .next (internal (writePair s .hl (readPair s .hl - 1)))

/-- INC SP (R201). -/
def execIncSp (s : State) : Result := .next (internal (writePair s .sp (readPair s .sp + 1)))

/-- ADD HL,SP (R200). -/
def execAddHlSp (s : State) : Result := .next (addToHl s (readPair s .sp))

/-- DEC SP (R202). -/
def execDecSp (s : State) : Result := .next (internal (writePair s .sp (readPair s .sp - 1)))

/-- ADD SP,e8 (R203). -/
def execAddSpE8 (e : Byte) (s : State) : Result := .next (internals 2 { setSpRelFlags s e with sp := spRelative s e })

end Sys2Proof.Machine
end

