-- ==== Sys2Proof/Machine/Shift.lean ====
section
/-! DEFINITION. Meanings: rotates and shifts, the accumulator forms and the second table's (spec/44_rotate_shift_bit.md R210 to R230). -/

namespace Sys2Proof.Machine

/-- The four accumulator rotates: Z always clear (R210 to R213). -/
def rotateAcc (s : State) (op : ShiftOp) : State :=
  let r := shiftFn op s.a (flagC s)
  setFlags { s with a := r.result } (some false) (some false) (some false) (some r.c)

/-- The flags of a second-table shifter instruction: `(r == 0, 0, 0, c)` (R214). -/
def setShiftFlags (s : State) (r : ShiftResult) : State :=
  setFlags s (some (decide (r.result = 0))) (some false) (some false) (some r.c)

/-- A second-table shifter instruction on a register (R215 to R229). -/
def shiftReg8 (s : State) (op : ShiftOp) (r : Reg8) : State :=
  let w := shiftFn op (readReg s r) (flagC s)
  setShiftFlags (writeReg s r w.result) w

/-- A second-table shifter instruction on the byte at HL: read in one cycle, written in the next (R216 to R230). -/
def shiftHlByte (s : State) (op : ShiftOp) : State :=
  let w := modifyHl s (fun v => (shiftFn op v (flagC s)).result)
  setShiftFlags w.2 (shiftFn op w.1 (flagC s))

/-- RLCA (R210). -/
def execRlca (s : State) : Result := .next (rotateAcc s .rlc)

/-- RRCA (R211). -/
def execRrca (s : State) : Result := .next (rotateAcc s .rrc)

/-- RLA (R212). -/
def execRla (s : State) : Result := .next (rotateAcc s .rl)

/-- RRA (R213). -/
def execRra (s : State) : Result := .next (rotateAcc s .rr)

/-- RLC B (R215). -/
def execRlcB (s : State) : Result := .next (shiftReg8 s .rlc .b)

/-- RLC C (R215). -/
def execRlcC (s : State) : Result := .next (shiftReg8 s .rlc .c)

/-- RLC D (R215). -/
def execRlcD (s : State) : Result := .next (shiftReg8 s .rlc .d)

/-- RLC E (R215). -/
def execRlcE (s : State) : Result := .next (shiftReg8 s .rlc .e)

/-- RLC H (R215). -/
def execRlcH (s : State) : Result := .next (shiftReg8 s .rlc .h)

/-- RLC L (R215). -/
def execRlcL (s : State) : Result := .next (shiftReg8 s .rlc .l)

/-- RLC (HL) (R216). -/
def execRlcAtHl (s : State) : Result := .next (shiftHlByte s .rlc)

/-- RLC A (R215). -/
def execRlcA (s : State) : Result := .next (shiftReg8 s .rlc .a)

/-- RRC B (R217). -/
def execRrcB (s : State) : Result := .next (shiftReg8 s .rrc .b)

/-- RRC C (R217). -/
def execRrcC (s : State) : Result := .next (shiftReg8 s .rrc .c)

/-- RRC D (R217). -/
def execRrcD (s : State) : Result := .next (shiftReg8 s .rrc .d)

/-- RRC E (R217). -/
def execRrcE (s : State) : Result := .next (shiftReg8 s .rrc .e)

/-- RRC H (R217). -/
def execRrcH (s : State) : Result := .next (shiftReg8 s .rrc .h)

/-- RRC L (R217). -/
def execRrcL (s : State) : Result := .next (shiftReg8 s .rrc .l)

/-- RRC (HL) (R218). -/
def execRrcAtHl (s : State) : Result := .next (shiftHlByte s .rrc)

/-- RRC A (R217). -/
def execRrcA (s : State) : Result := .next (shiftReg8 s .rrc .a)

/-- RL B (R219). -/
def execRlB (s : State) : Result := .next (shiftReg8 s .rl .b)

/-- RL C (R219). -/
def execRlC (s : State) : Result := .next (shiftReg8 s .rl .c)

/-- RL D (R219). -/
def execRlD (s : State) : Result := .next (shiftReg8 s .rl .d)

/-- RL E (R219). -/
def execRlE (s : State) : Result := .next (shiftReg8 s .rl .e)

/-- RL H (R219). -/
def execRlH (s : State) : Result := .next (shiftReg8 s .rl .h)

/-- RL L (R219). -/
def execRlL (s : State) : Result := .next (shiftReg8 s .rl .l)

/-- RL (HL) (R220). -/
def execRlAtHl (s : State) : Result := .next (shiftHlByte s .rl)

/-- RL A (R219). -/
def execRlA (s : State) : Result := .next (shiftReg8 s .rl .a)

/-- RR B (R221). -/
def execRrB (s : State) : Result := .next (shiftReg8 s .rr .b)

/-- RR C (R221). -/
def execRrC (s : State) : Result := .next (shiftReg8 s .rr .c)

/-- RR D (R221). -/
def execRrD (s : State) : Result := .next (shiftReg8 s .rr .d)

/-- RR E (R221). -/
def execRrE (s : State) : Result := .next (shiftReg8 s .rr .e)

/-- RR H (R221). -/
def execRrH (s : State) : Result := .next (shiftReg8 s .rr .h)

/-- RR L (R221). -/
def execRrL (s : State) : Result := .next (shiftReg8 s .rr .l)

/-- RR (HL) (R222). -/
def execRrAtHl (s : State) : Result := .next (shiftHlByte s .rr)

/-- RR A (R221). -/
def execRrA (s : State) : Result := .next (shiftReg8 s .rr .a)

/-- SLA B (R223). -/
def execSlaB (s : State) : Result := .next (shiftReg8 s .sla .b)

/-- SLA C (R223). -/
def execSlaC (s : State) : Result := .next (shiftReg8 s .sla .c)

/-- SLA D (R223). -/
def execSlaD (s : State) : Result := .next (shiftReg8 s .sla .d)

/-- SLA E (R223). -/
def execSlaE (s : State) : Result := .next (shiftReg8 s .sla .e)

/-- SLA H (R223). -/
def execSlaH (s : State) : Result := .next (shiftReg8 s .sla .h)

/-- SLA L (R223). -/
def execSlaL (s : State) : Result := .next (shiftReg8 s .sla .l)

/-- SLA (HL) (R224). -/
def execSlaAtHl (s : State) : Result := .next (shiftHlByte s .sla)

/-- SLA A (R223). -/
def execSlaA (s : State) : Result := .next (shiftReg8 s .sla .a)

/-- SRA B (R225). -/
def execSraB (s : State) : Result := .next (shiftReg8 s .sra .b)

/-- SRA C (R225). -/
def execSraC (s : State) : Result := .next (shiftReg8 s .sra .c)

/-- SRA D (R225). -/
def execSraD (s : State) : Result := .next (shiftReg8 s .sra .d)

/-- SRA E (R225). -/
def execSraE (s : State) : Result := .next (shiftReg8 s .sra .e)

/-- SRA H (R225). -/
def execSraH (s : State) : Result := .next (shiftReg8 s .sra .h)

/-- SRA L (R225). -/
def execSraL (s : State) : Result := .next (shiftReg8 s .sra .l)

/-- SRA (HL) (R226). -/
def execSraAtHl (s : State) : Result := .next (shiftHlByte s .sra)

/-- SRA A (R225). -/
def execSraA (s : State) : Result := .next (shiftReg8 s .sra .a)

/-- SWAP B (R227). -/
def execSwapB (s : State) : Result := .next (shiftReg8 s .swap .b)

/-- SWAP C (R227). -/
def execSwapC (s : State) : Result := .next (shiftReg8 s .swap .c)

/-- SWAP D (R227). -/
def execSwapD (s : State) : Result := .next (shiftReg8 s .swap .d)

/-- SWAP E (R227). -/
def execSwapE (s : State) : Result := .next (shiftReg8 s .swap .e)

/-- SWAP H (R227). -/
def execSwapH (s : State) : Result := .next (shiftReg8 s .swap .h)

/-- SWAP L (R227). -/
def execSwapL (s : State) : Result := .next (shiftReg8 s .swap .l)

/-- SWAP (HL) (R228). -/
def execSwapAtHl (s : State) : Result := .next (shiftHlByte s .swap)

/-- SWAP A (R227). -/
def execSwapA (s : State) : Result := .next (shiftReg8 s .swap .a)

/-- SRL B (R229). -/
def execSrlB (s : State) : Result := .next (shiftReg8 s .srl .b)

/-- SRL C (R229). -/
def execSrlC (s : State) : Result := .next (shiftReg8 s .srl .c)

/-- SRL D (R229). -/
def execSrlD (s : State) : Result := .next (shiftReg8 s .srl .d)

/-- SRL E (R229). -/
def execSrlE (s : State) : Result := .next (shiftReg8 s .srl .e)

/-- SRL H (R229). -/
def execSrlH (s : State) : Result := .next (shiftReg8 s .srl .h)

/-- SRL L (R229). -/
def execSrlL (s : State) : Result := .next (shiftReg8 s .srl .l)

/-- SRL (HL) (R230). -/
def execSrlAtHl (s : State) : Result := .next (shiftHlByte s .srl)

/-- SRL A (R229). -/
def execSrlA (s : State) : Result := .next (shiftReg8 s .srl .a)

end Sys2Proof.Machine
end

