-- ==== Sys2Proof/Machine/Bits.lean ====
section
/-! DEFINITION. Meanings: bit test, reset and set (spec/44_rotate_shift_bit.md R231 to R236). -/

namespace Sys2Proof.Machine

/-- `BIT b,(HL)`: one read, memory not written (R232). -/
def bitHlByte (s : State) (b : Nat) : State :=
  let v := memRead s (hlOf s)
  setBitTestFlags v.2 v.1 b

/-- BIT 0,B (R231). -/
def execBit0B (s : State) : Result := .next (setBitTestFlags s (readReg s .b) 0)

/-- BIT 0,C (R231). -/
def execBit0C (s : State) : Result := .next (setBitTestFlags s (readReg s .c) 0)

/-- BIT 0,D (R231). -/
def execBit0D (s : State) : Result := .next (setBitTestFlags s (readReg s .d) 0)

/-- BIT 0,E (R231). -/
def execBit0E (s : State) : Result := .next (setBitTestFlags s (readReg s .e) 0)

/-- BIT 0,H (R231). -/
def execBit0H (s : State) : Result := .next (setBitTestFlags s (readReg s .h) 0)

/-- BIT 0,L (R231). -/
def execBit0L (s : State) : Result := .next (setBitTestFlags s (readReg s .l) 0)

/-- BIT 0,(HL) (R232). -/
def execBit0AtHl (s : State) : Result := .next (bitHlByte s 0)

/-- BIT 0,A (R231). -/
def execBit0A (s : State) : Result := .next (setBitTestFlags s (readReg s .a) 0)

/-- BIT 1,B (R231). -/
def execBit1B (s : State) : Result := .next (setBitTestFlags s (readReg s .b) 1)

/-- BIT 1,C (R231). -/
def execBit1C (s : State) : Result := .next (setBitTestFlags s (readReg s .c) 1)

/-- BIT 1,D (R231). -/
def execBit1D (s : State) : Result := .next (setBitTestFlags s (readReg s .d) 1)

/-- BIT 1,E (R231). -/
def execBit1E (s : State) : Result := .next (setBitTestFlags s (readReg s .e) 1)

/-- BIT 1,H (R231). -/
def execBit1H (s : State) : Result := .next (setBitTestFlags s (readReg s .h) 1)

/-- BIT 1,L (R231). -/
def execBit1L (s : State) : Result := .next (setBitTestFlags s (readReg s .l) 1)

/-- BIT 1,(HL) (R232). -/
def execBit1AtHl (s : State) : Result := .next (bitHlByte s 1)

/-- BIT 1,A (R231). -/
def execBit1A (s : State) : Result := .next (setBitTestFlags s (readReg s .a) 1)

/-- BIT 2,B (R231). -/
def execBit2B (s : State) : Result := .next (setBitTestFlags s (readReg s .b) 2)

/-- BIT 2,C (R231). -/
def execBit2C (s : State) : Result := .next (setBitTestFlags s (readReg s .c) 2)

/-- BIT 2,D (R231). -/
def execBit2D (s : State) : Result := .next (setBitTestFlags s (readReg s .d) 2)

/-- BIT 2,E (R231). -/
def execBit2E (s : State) : Result := .next (setBitTestFlags s (readReg s .e) 2)

/-- BIT 2,H (R231). -/
def execBit2H (s : State) : Result := .next (setBitTestFlags s (readReg s .h) 2)

/-- BIT 2,L (R231). -/
def execBit2L (s : State) : Result := .next (setBitTestFlags s (readReg s .l) 2)

/-- BIT 2,(HL) (R232). -/
def execBit2AtHl (s : State) : Result := .next (bitHlByte s 2)

/-- BIT 2,A (R231). -/
def execBit2A (s : State) : Result := .next (setBitTestFlags s (readReg s .a) 2)

/-- BIT 3,B (R231). -/
def execBit3B (s : State) : Result := .next (setBitTestFlags s (readReg s .b) 3)

/-- BIT 3,C (R231). -/
def execBit3C (s : State) : Result := .next (setBitTestFlags s (readReg s .c) 3)

/-- BIT 3,D (R231). -/
def execBit3D (s : State) : Result := .next (setBitTestFlags s (readReg s .d) 3)

/-- BIT 3,E (R231). -/
def execBit3E (s : State) : Result := .next (setBitTestFlags s (readReg s .e) 3)

/-- BIT 3,H (R231). -/
def execBit3H (s : State) : Result := .next (setBitTestFlags s (readReg s .h) 3)

/-- BIT 3,L (R231). -/
def execBit3L (s : State) : Result := .next (setBitTestFlags s (readReg s .l) 3)

/-- BIT 3,(HL) (R232). -/
def execBit3AtHl (s : State) : Result := .next (bitHlByte s 3)

/-- BIT 3,A (R231). -/
def execBit3A (s : State) : Result := .next (setBitTestFlags s (readReg s .a) 3)

/-- BIT 4,B (R231). -/
def execBit4B (s : State) : Result := .next (setBitTestFlags s (readReg s .b) 4)

/-- BIT 4,C (R231). -/
def execBit4C (s : State) : Result := .next (setBitTestFlags s (readReg s .c) 4)

/-- BIT 4,D (R231). -/
def execBit4D (s : State) : Result := .next (setBitTestFlags s (readReg s .d) 4)

/-- BIT 4,E (R231). -/
def execBit4E (s : State) : Result := .next (setBitTestFlags s (readReg s .e) 4)

/-- BIT 4,H (R231). -/
def execBit4H (s : State) : Result := .next (setBitTestFlags s (readReg s .h) 4)

/-- BIT 4,L (R231). -/
def execBit4L (s : State) : Result := .next (setBitTestFlags s (readReg s .l) 4)

/-- BIT 4,(HL) (R232). -/
def execBit4AtHl (s : State) : Result := .next (bitHlByte s 4)

/-- BIT 4,A (R231). -/
def execBit4A (s : State) : Result := .next (setBitTestFlags s (readReg s .a) 4)

/-- BIT 5,B (R231). -/
def execBit5B (s : State) : Result := .next (setBitTestFlags s (readReg s .b) 5)

/-- BIT 5,C (R231). -/
def execBit5C (s : State) : Result := .next (setBitTestFlags s (readReg s .c) 5)

/-- BIT 5,D (R231). -/
def execBit5D (s : State) : Result := .next (setBitTestFlags s (readReg s .d) 5)

/-- BIT 5,E (R231). -/
def execBit5E (s : State) : Result := .next (setBitTestFlags s (readReg s .e) 5)

/-- BIT 5,H (R231). -/
def execBit5H (s : State) : Result := .next (setBitTestFlags s (readReg s .h) 5)

/-- BIT 5,L (R231). -/
def execBit5L (s : State) : Result := .next (setBitTestFlags s (readReg s .l) 5)

/-- BIT 5,(HL) (R232). -/
def execBit5AtHl (s : State) : Result := .next (bitHlByte s 5)

/-- BIT 5,A (R231). -/
def execBit5A (s : State) : Result := .next (setBitTestFlags s (readReg s .a) 5)

/-- BIT 6,B (R231). -/
def execBit6B (s : State) : Result := .next (setBitTestFlags s (readReg s .b) 6)

/-- BIT 6,C (R231). -/
def execBit6C (s : State) : Result := .next (setBitTestFlags s (readReg s .c) 6)

/-- BIT 6,D (R231). -/
def execBit6D (s : State) : Result := .next (setBitTestFlags s (readReg s .d) 6)

/-- BIT 6,E (R231). -/
def execBit6E (s : State) : Result := .next (setBitTestFlags s (readReg s .e) 6)

/-- BIT 6,H (R231). -/
def execBit6H (s : State) : Result := .next (setBitTestFlags s (readReg s .h) 6)

/-- BIT 6,L (R231). -/
def execBit6L (s : State) : Result := .next (setBitTestFlags s (readReg s .l) 6)

/-- BIT 6,(HL) (R232). -/
def execBit6AtHl (s : State) : Result := .next (bitHlByte s 6)

/-- BIT 6,A (R231). -/
def execBit6A (s : State) : Result := .next (setBitTestFlags s (readReg s .a) 6)

/-- BIT 7,B (R231). -/
def execBit7B (s : State) : Result := .next (setBitTestFlags s (readReg s .b) 7)

/-- BIT 7,C (R231). -/
def execBit7C (s : State) : Result := .next (setBitTestFlags s (readReg s .c) 7)

/-- BIT 7,D (R231). -/
def execBit7D (s : State) : Result := .next (setBitTestFlags s (readReg s .d) 7)

/-- BIT 7,E (R231). -/
def execBit7E (s : State) : Result := .next (setBitTestFlags s (readReg s .e) 7)

/-- BIT 7,H (R231). -/
def execBit7H (s : State) : Result := .next (setBitTestFlags s (readReg s .h) 7)

/-- BIT 7,L (R231). -/
def execBit7L (s : State) : Result := .next (setBitTestFlags s (readReg s .l) 7)

/-- BIT 7,(HL) (R232). -/
def execBit7AtHl (s : State) : Result := .next (bitHlByte s 7)

/-- BIT 7,A (R231). -/
def execBit7A (s : State) : Result := .next (setBitTestFlags s (readReg s .a) 7)

/-- RES 0,B (R233). -/
def execRes0B (s : State) : Result := .next (writeReg s .b (clearBit (readReg s .b) 0))

/-- RES 0,C (R233). -/
def execRes0C (s : State) : Result := .next (writeReg s .c (clearBit (readReg s .c) 0))

/-- RES 0,D (R233). -/
def execRes0D (s : State) : Result := .next (writeReg s .d (clearBit (readReg s .d) 0))

/-- RES 0,E (R233). -/
def execRes0E (s : State) : Result := .next (writeReg s .e (clearBit (readReg s .e) 0))

/-- RES 0,H (R233). -/
def execRes0H (s : State) : Result := .next (writeReg s .h (clearBit (readReg s .h) 0))

/-- RES 0,L (R233). -/
def execRes0L (s : State) : Result := .next (writeReg s .l (clearBit (readReg s .l) 0))

/-- RES 0,(HL) (R234). -/
def execRes0AtHl (s : State) : Result := .next ((modifyHl s (fun v => clearBit v 0)).2)

/-- RES 0,A (R233). -/
def execRes0A (s : State) : Result := .next (writeReg s .a (clearBit (readReg s .a) 0))

/-- RES 1,B (R233). -/
def execRes1B (s : State) : Result := .next (writeReg s .b (clearBit (readReg s .b) 1))

/-- RES 1,C (R233). -/
def execRes1C (s : State) : Result := .next (writeReg s .c (clearBit (readReg s .c) 1))

/-- RES 1,D (R233). -/
def execRes1D (s : State) : Result := .next (writeReg s .d (clearBit (readReg s .d) 1))

/-- RES 1,E (R233). -/
def execRes1E (s : State) : Result := .next (writeReg s .e (clearBit (readReg s .e) 1))

/-- RES 1,H (R233). -/
def execRes1H (s : State) : Result := .next (writeReg s .h (clearBit (readReg s .h) 1))

/-- RES 1,L (R233). -/
def execRes1L (s : State) : Result := .next (writeReg s .l (clearBit (readReg s .l) 1))

/-- RES 1,(HL) (R234). -/
def execRes1AtHl (s : State) : Result := .next ((modifyHl s (fun v => clearBit v 1)).2)

/-- RES 1,A (R233). -/
def execRes1A (s : State) : Result := .next (writeReg s .a (clearBit (readReg s .a) 1))

/-- RES 2,B (R233). -/
def execRes2B (s : State) : Result := .next (writeReg s .b (clearBit (readReg s .b) 2))

/-- RES 2,C (R233). -/
def execRes2C (s : State) : Result := .next (writeReg s .c (clearBit (readReg s .c) 2))

/-- RES 2,D (R233). -/
def execRes2D (s : State) : Result := .next (writeReg s .d (clearBit (readReg s .d) 2))

/-- RES 2,E (R233). -/
def execRes2E (s : State) : Result := .next (writeReg s .e (clearBit (readReg s .e) 2))

/-- RES 2,H (R233). -/
def execRes2H (s : State) : Result := .next (writeReg s .h (clearBit (readReg s .h) 2))

/-- RES 2,L (R233). -/
def execRes2L (s : State) : Result := .next (writeReg s .l (clearBit (readReg s .l) 2))

/-- RES 2,(HL) (R234). -/
def execRes2AtHl (s : State) : Result := .next ((modifyHl s (fun v => clearBit v 2)).2)

/-- RES 2,A (R233). -/
def execRes2A (s : State) : Result := .next (writeReg s .a (clearBit (readReg s .a) 2))

/-- RES 3,B (R233). -/
def execRes3B (s : State) : Result := .next (writeReg s .b (clearBit (readReg s .b) 3))

/-- RES 3,C (R233). -/
def execRes3C (s : State) : Result := .next (writeReg s .c (clearBit (readReg s .c) 3))

/-- RES 3,D (R233). -/
def execRes3D (s : State) : Result := .next (writeReg s .d (clearBit (readReg s .d) 3))

/-- RES 3,E (R233). -/
def execRes3E (s : State) : Result := .next (writeReg s .e (clearBit (readReg s .e) 3))

/-- RES 3,H (R233). -/
def execRes3H (s : State) : Result := .next (writeReg s .h (clearBit (readReg s .h) 3))

/-- RES 3,L (R233). -/
def execRes3L (s : State) : Result := .next (writeReg s .l (clearBit (readReg s .l) 3))

/-- RES 3,(HL) (R234). -/
def execRes3AtHl (s : State) : Result := .next ((modifyHl s (fun v => clearBit v 3)).2)

/-- RES 3,A (R233). -/
def execRes3A (s : State) : Result := .next (writeReg s .a (clearBit (readReg s .a) 3))

/-- RES 4,B (R233). -/
def execRes4B (s : State) : Result := .next (writeReg s .b (clearBit (readReg s .b) 4))

/-- RES 4,C (R233). -/
def execRes4C (s : State) : Result := .next (writeReg s .c (clearBit (readReg s .c) 4))

/-- RES 4,D (R233). -/
def execRes4D (s : State) : Result := .next (writeReg s .d (clearBit (readReg s .d) 4))

/-- RES 4,E (R233). -/
def execRes4E (s : State) : Result := .next (writeReg s .e (clearBit (readReg s .e) 4))

/-- RES 4,H (R233). -/
def execRes4H (s : State) : Result := .next (writeReg s .h (clearBit (readReg s .h) 4))

/-- RES 4,L (R233). -/
def execRes4L (s : State) : Result := .next (writeReg s .l (clearBit (readReg s .l) 4))

/-- RES 4,(HL) (R234). -/
def execRes4AtHl (s : State) : Result := .next ((modifyHl s (fun v => clearBit v 4)).2)

/-- RES 4,A (R233). -/
def execRes4A (s : State) : Result := .next (writeReg s .a (clearBit (readReg s .a) 4))

/-- RES 5,B (R233). -/
def execRes5B (s : State) : Result := .next (writeReg s .b (clearBit (readReg s .b) 5))

/-- RES 5,C (R233). -/
def execRes5C (s : State) : Result := .next (writeReg s .c (clearBit (readReg s .c) 5))

/-- RES 5,D (R233). -/
def execRes5D (s : State) : Result := .next (writeReg s .d (clearBit (readReg s .d) 5))

/-- RES 5,E (R233). -/
def execRes5E (s : State) : Result := .next (writeReg s .e (clearBit (readReg s .e) 5))

/-- RES 5,H (R233). -/
def execRes5H (s : State) : Result := .next (writeReg s .h (clearBit (readReg s .h) 5))

/-- RES 5,L (R233). -/
def execRes5L (s : State) : Result := .next (writeReg s .l (clearBit (readReg s .l) 5))

/-- RES 5,(HL) (R234). -/
def execRes5AtHl (s : State) : Result := .next ((modifyHl s (fun v => clearBit v 5)).2)

/-- RES 5,A (R233). -/
def execRes5A (s : State) : Result := .next (writeReg s .a (clearBit (readReg s .a) 5))

/-- RES 6,B (R233). -/
def execRes6B (s : State) : Result := .next (writeReg s .b (clearBit (readReg s .b) 6))

/-- RES 6,C (R233). -/
def execRes6C (s : State) : Result := .next (writeReg s .c (clearBit (readReg s .c) 6))

/-- RES 6,D (R233). -/
def execRes6D (s : State) : Result := .next (writeReg s .d (clearBit (readReg s .d) 6))

/-- RES 6,E (R233). -/
def execRes6E (s : State) : Result := .next (writeReg s .e (clearBit (readReg s .e) 6))

/-- RES 6,H (R233). -/
def execRes6H (s : State) : Result := .next (writeReg s .h (clearBit (readReg s .h) 6))

/-- RES 6,L (R233). -/
def execRes6L (s : State) : Result := .next (writeReg s .l (clearBit (readReg s .l) 6))

/-- RES 6,(HL) (R234). -/
def execRes6AtHl (s : State) : Result := .next ((modifyHl s (fun v => clearBit v 6)).2)

/-- RES 6,A (R233). -/
def execRes6A (s : State) : Result := .next (writeReg s .a (clearBit (readReg s .a) 6))

/-- RES 7,B (R233). -/
def execRes7B (s : State) : Result := .next (writeReg s .b (clearBit (readReg s .b) 7))

/-- RES 7,C (R233). -/
def execRes7C (s : State) : Result := .next (writeReg s .c (clearBit (readReg s .c) 7))

/-- RES 7,D (R233). -/
def execRes7D (s : State) : Result := .next (writeReg s .d (clearBit (readReg s .d) 7))

/-- RES 7,E (R233). -/
def execRes7E (s : State) : Result := .next (writeReg s .e (clearBit (readReg s .e) 7))

/-- RES 7,H (R233). -/
def execRes7H (s : State) : Result := .next (writeReg s .h (clearBit (readReg s .h) 7))

/-- RES 7,L (R233). -/
def execRes7L (s : State) : Result := .next (writeReg s .l (clearBit (readReg s .l) 7))

/-- RES 7,(HL) (R234). -/
def execRes7AtHl (s : State) : Result := .next ((modifyHl s (fun v => clearBit v 7)).2)

/-- RES 7,A (R233). -/
def execRes7A (s : State) : Result := .next (writeReg s .a (clearBit (readReg s .a) 7))

/-- SET 0,B (R235). -/
def execSet0B (s : State) : Result := .next (writeReg s .b (setBit (readReg s .b) 0))

/-- SET 0,C (R235). -/
def execSet0C (s : State) : Result := .next (writeReg s .c (setBit (readReg s .c) 0))

/-- SET 0,D (R235). -/
def execSet0D (s : State) : Result := .next (writeReg s .d (setBit (readReg s .d) 0))

/-- SET 0,E (R235). -/
def execSet0E (s : State) : Result := .next (writeReg s .e (setBit (readReg s .e) 0))

/-- SET 0,H (R235). -/
def execSet0H (s : State) : Result := .next (writeReg s .h (setBit (readReg s .h) 0))

/-- SET 0,L (R235). -/
def execSet0L (s : State) : Result := .next (writeReg s .l (setBit (readReg s .l) 0))

/-- SET 0,(HL) (R236). -/
def execSet0AtHl (s : State) : Result := .next ((modifyHl s (fun v => setBit v 0)).2)

/-- SET 0,A (R235). -/
def execSet0A (s : State) : Result := .next (writeReg s .a (setBit (readReg s .a) 0))

/-- SET 1,B (R235). -/
def execSet1B (s : State) : Result := .next (writeReg s .b (setBit (readReg s .b) 1))

/-- SET 1,C (R235). -/
def execSet1C (s : State) : Result := .next (writeReg s .c (setBit (readReg s .c) 1))

/-- SET 1,D (R235). -/
def execSet1D (s : State) : Result := .next (writeReg s .d (setBit (readReg s .d) 1))

/-- SET 1,E (R235). -/
def execSet1E (s : State) : Result := .next (writeReg s .e (setBit (readReg s .e) 1))

/-- SET 1,H (R235). -/
def execSet1H (s : State) : Result := .next (writeReg s .h (setBit (readReg s .h) 1))

/-- SET 1,L (R235). -/
def execSet1L (s : State) : Result := .next (writeReg s .l (setBit (readReg s .l) 1))

/-- SET 1,(HL) (R236). -/
def execSet1AtHl (s : State) : Result := .next ((modifyHl s (fun v => setBit v 1)).2)

/-- SET 1,A (R235). -/
def execSet1A (s : State) : Result := .next (writeReg s .a (setBit (readReg s .a) 1))

/-- SET 2,B (R235). -/
def execSet2B (s : State) : Result := .next (writeReg s .b (setBit (readReg s .b) 2))

/-- SET 2,C (R235). -/
def execSet2C (s : State) : Result := .next (writeReg s .c (setBit (readReg s .c) 2))

/-- SET 2,D (R235). -/
def execSet2D (s : State) : Result := .next (writeReg s .d (setBit (readReg s .d) 2))

/-- SET 2,E (R235). -/
def execSet2E (s : State) : Result := .next (writeReg s .e (setBit (readReg s .e) 2))

/-- SET 2,H (R235). -/
def execSet2H (s : State) : Result := .next (writeReg s .h (setBit (readReg s .h) 2))

/-- SET 2,L (R235). -/
def execSet2L (s : State) : Result := .next (writeReg s .l (setBit (readReg s .l) 2))

/-- SET 2,(HL) (R236). -/
def execSet2AtHl (s : State) : Result := .next ((modifyHl s (fun v => setBit v 2)).2)

/-- SET 2,A (R235). -/
def execSet2A (s : State) : Result := .next (writeReg s .a (setBit (readReg s .a) 2))

/-- SET 3,B (R235). -/
def execSet3B (s : State) : Result := .next (writeReg s .b (setBit (readReg s .b) 3))

/-- SET 3,C (R235). -/
def execSet3C (s : State) : Result := .next (writeReg s .c (setBit (readReg s .c) 3))

/-- SET 3,D (R235). -/
def execSet3D (s : State) : Result := .next (writeReg s .d (setBit (readReg s .d) 3))

/-- SET 3,E (R235). -/
def execSet3E (s : State) : Result := .next (writeReg s .e (setBit (readReg s .e) 3))

/-- SET 3,H (R235). -/
def execSet3H (s : State) : Result := .next (writeReg s .h (setBit (readReg s .h) 3))

/-- SET 3,L (R235). -/
def execSet3L (s : State) : Result := .next (writeReg s .l (setBit (readReg s .l) 3))

/-- SET 3,(HL) (R236). -/
def execSet3AtHl (s : State) : Result := .next ((modifyHl s (fun v => setBit v 3)).2)

/-- SET 3,A (R235). -/
def execSet3A (s : State) : Result := .next (writeReg s .a (setBit (readReg s .a) 3))

/-- SET 4,B (R235). -/
def execSet4B (s : State) : Result := .next (writeReg s .b (setBit (readReg s .b) 4))

/-- SET 4,C (R235). -/
def execSet4C (s : State) : Result := .next (writeReg s .c (setBit (readReg s .c) 4))

/-- SET 4,D (R235). -/
def execSet4D (s : State) : Result := .next (writeReg s .d (setBit (readReg s .d) 4))

/-- SET 4,E (R235). -/
def execSet4E (s : State) : Result := .next (writeReg s .e (setBit (readReg s .e) 4))

/-- SET 4,H (R235). -/
def execSet4H (s : State) : Result := .next (writeReg s .h (setBit (readReg s .h) 4))

/-- SET 4,L (R235). -/
def execSet4L (s : State) : Result := .next (writeReg s .l (setBit (readReg s .l) 4))

/-- SET 4,(HL) (R236). -/
def execSet4AtHl (s : State) : Result := .next ((modifyHl s (fun v => setBit v 4)).2)

/-- SET 4,A (R235). -/
def execSet4A (s : State) : Result := .next (writeReg s .a (setBit (readReg s .a) 4))

/-- SET 5,B (R235). -/
def execSet5B (s : State) : Result := .next (writeReg s .b (setBit (readReg s .b) 5))

/-- SET 5,C (R235). -/
def execSet5C (s : State) : Result := .next (writeReg s .c (setBit (readReg s .c) 5))

/-- SET 5,D (R235). -/
def execSet5D (s : State) : Result := .next (writeReg s .d (setBit (readReg s .d) 5))

/-- SET 5,E (R235). -/
def execSet5E (s : State) : Result := .next (writeReg s .e (setBit (readReg s .e) 5))

/-- SET 5,H (R235). -/
def execSet5H (s : State) : Result := .next (writeReg s .h (setBit (readReg s .h) 5))

/-- SET 5,L (R235). -/
def execSet5L (s : State) : Result := .next (writeReg s .l (setBit (readReg s .l) 5))

/-- SET 5,(HL) (R236). -/
def execSet5AtHl (s : State) : Result := .next ((modifyHl s (fun v => setBit v 5)).2)

/-- SET 5,A (R235). -/
def execSet5A (s : State) : Result := .next (writeReg s .a (setBit (readReg s .a) 5))

/-- SET 6,B (R235). -/
def execSet6B (s : State) : Result := .next (writeReg s .b (setBit (readReg s .b) 6))

/-- SET 6,C (R235). -/
def execSet6C (s : State) : Result := .next (writeReg s .c (setBit (readReg s .c) 6))

/-- SET 6,D (R235). -/
def execSet6D (s : State) : Result := .next (writeReg s .d (setBit (readReg s .d) 6))

/-- SET 6,E (R235). -/
def execSet6E (s : State) : Result := .next (writeReg s .e (setBit (readReg s .e) 6))

/-- SET 6,H (R235). -/
def execSet6H (s : State) : Result := .next (writeReg s .h (setBit (readReg s .h) 6))

/-- SET 6,L (R235). -/
def execSet6L (s : State) : Result := .next (writeReg s .l (setBit (readReg s .l) 6))

/-- SET 6,(HL) (R236). -/
def execSet6AtHl (s : State) : Result := .next ((modifyHl s (fun v => setBit v 6)).2)

/-- SET 6,A (R235). -/
def execSet6A (s : State) : Result := .next (writeReg s .a (setBit (readReg s .a) 6))

/-- SET 7,B (R235). -/
def execSet7B (s : State) : Result := .next (writeReg s .b (setBit (readReg s .b) 7))

/-- SET 7,C (R235). -/
def execSet7C (s : State) : Result := .next (writeReg s .c (setBit (readReg s .c) 7))

/-- SET 7,D (R235). -/
def execSet7D (s : State) : Result := .next (writeReg s .d (setBit (readReg s .d) 7))

/-- SET 7,E (R235). -/
def execSet7E (s : State) : Result := .next (writeReg s .e (setBit (readReg s .e) 7))

/-- SET 7,H (R235). -/
def execSet7H (s : State) : Result := .next (writeReg s .h (setBit (readReg s .h) 7))

/-- SET 7,L (R235). -/
def execSet7L (s : State) : Result := .next (writeReg s .l (setBit (readReg s .l) 7))

/-- SET 7,(HL) (R236). -/
def execSet7AtHl (s : State) : Result := .next ((modifyHl s (fun v => setBit v 7)).2)

/-- SET 7,A (R235). -/
def execSet7A (s : State) : Result := .next (writeReg s .a (setBit (readReg s .a) 7))

end Sys2Proof.Machine
end

