-- ==== Sys2Proof/Machine/Control.lean ====
section
/-! DEFINITION. Meanings: jumps, calls, returns and restarts (spec/45_control.md R250 to R261). No instruction here changes a flag. -/

namespace Sys2Proof.Machine

/-- `pc <- a; Internal()` (R251, R254). -/
def jumpTo (s : State) (a : Word) : State := internal { s with pc := a }

/-- `Internal(); Push16(pc); pc <- a` (R256, R261). -/
def callTo (s : State) (a : Word) : State :=
  let t := push16 (internal s) s.pc
  { t with pc := a }

/-- `a <- Pop16(); pc <- a; Internal()` (R258). -/
def returnTo (s : State) : State :=
  let r := pop16 s
  internal { r.2 with pc := r.1 }

/-- `RET cc`: the condition is evaluated in a leading internal cycle (R259). -/
def returnIf (s : State) (cc : Cond) : State := if condHolds s cc then returnTo (internal s) else internal s

/-- JR e8 (R254). -/
def execJrE8 (e : Byte) (s : State) : Result := .next (jumpTo s (relativeTarget s e))

/-- JR NZ,e8 (R255). -/
def execJrNzE8 (e : Byte) (s : State) : Result := .next (if condHolds s .nz then jumpTo s (relativeTarget s e) else s)

/-- JR Z,e8 (R255). -/
def execJrZE8 (e : Byte) (s : State) : Result := .next (if condHolds s .z then jumpTo s (relativeTarget s e) else s)

/-- JR NC,e8 (R255). -/
def execJrNcE8 (e : Byte) (s : State) : Result := .next (if condHolds s .nc then jumpTo s (relativeTarget s e) else s)

/-- JR C,e8 (R255). -/
def execJrCE8 (e : Byte) (s : State) : Result := .next (if condHolds s .c then jumpTo s (relativeTarget s e) else s)

/-- RET NZ (R259). -/
def execRetNz (s : State) : Result := .next (returnIf s .nz)

/-- JP NZ,n16 (R252). -/
def execJpNzN16 (n : Word) (s : State) : Result := .next (if condHolds s .nz then jumpTo s n else s)

/-- JP n16 (R251). -/
def execJpN16 (n : Word) (s : State) : Result := .next (jumpTo s n)

/-- CALL NZ,n16 (R257). -/
def execCallNzN16 (n : Word) (s : State) : Result := .next (if condHolds s .nz then callTo s n else s)

/-- RST 00H (R261). -/
def execRst00 (s : State) : Result := .next (callTo s 0x0000#16)

/-- RET Z (R259). -/
def execRetZ (s : State) : Result := .next (returnIf s .z)

/-- RET (R258). -/
def execRet (s : State) : Result := .next (returnTo s)

/-- JP Z,n16 (R252). -/
def execJpZN16 (n : Word) (s : State) : Result := .next (if condHolds s .z then jumpTo s n else s)

/-- CALL Z,n16 (R257). -/
def execCallZN16 (n : Word) (s : State) : Result := .next (if condHolds s .z then callTo s n else s)

/-- CALL n16 (R256). -/
def execCallN16 (n : Word) (s : State) : Result := .next (callTo s n)

/-- RST 08H (R261). -/
def execRst08 (s : State) : Result := .next (callTo s 0x0008#16)

/-- RET NC (R259). -/
def execRetNc (s : State) : Result := .next (returnIf s .nc)

/-- JP NC,n16 (R252). -/
def execJpNcN16 (n : Word) (s : State) : Result := .next (if condHolds s .nc then jumpTo s n else s)

/-- CALL NC,n16 (R257). -/
def execCallNcN16 (n : Word) (s : State) : Result := .next (if condHolds s .nc then callTo s n else s)

/-- RST 10H (R261). -/
def execRst10 (s : State) : Result := .next (callTo s 0x0010#16)

/-- RET C (R259). -/
def execRetC (s : State) : Result := .next (returnIf s .c)

/-- RETI (R260). -/
def execReti (s : State) : Result := .next (returnFromInterrupt s)

/-- JP C,n16 (R252). -/
def execJpCN16 (n : Word) (s : State) : Result := .next (if condHolds s .c then jumpTo s n else s)

/-- CALL C,n16 (R257). -/
def execCallCN16 (n : Word) (s : State) : Result := .next (if condHolds s .c then callTo s n else s)

/-- RST 18H (R261). -/
def execRst18 (s : State) : Result := .next (callTo s 0x0018#16)

/-- RST 20H (R261). -/
def execRst20 (s : State) : Result := .next (callTo s 0x0020#16)

/-- JP HL (R253). -/
def execJpHl (s : State) : Result := .next { s with pc := hlOf s }

/-- RST 28H (R261). -/
def execRst28 (s : State) : Result := .next (callTo s 0x0028#16)

/-- RST 30H (R261). -/
def execRst30 (s : State) : Result := .next (callTo s 0x0030#16)

/-- RST 38H (R261). -/
def execRst38 (s : State) : Result := .next (callTo s 0x0038#16)

end Sys2Proof.Machine
end

