-- ==== Sys2Proof/Machine/System.lean ====
section
/-! DEFINITION. Meanings: the system instructions (spec/46_system.md R271 to R277). -/

namespace Sys2Proof.Machine

/-- NOP (R271). -/
def execNop (s : State) : Result := .next s

/-- STOP (R273): in `nop` mode PC steps past the second byte with no bus access; in `refuse` mode the instruction has
no meaning. Log 3. -/
def execStop (s : State) : Result :=
  match s.params.stopMode with
  | .nop => .next { s with pc := s.pc + 1 }
  | .refuse => .refused .stopRefused

/-- HALT (R272). -/
def execHalt (s : State) : Result := .next { s with halted := true }

/-- ILLEGAL (R277): the opcode was fetched from the address before PC. DEDUCED, log 19. -/
def execIllegal (op : Byte) (s : State) : Result := .next (raiseFatal s op (s.pc - 1))

/-- DI (R274). -/
def execDi (s : State) : Result := .next { s with ime := false, imePending := false }

/-- EI (R275). -/
def execEi (s : State) : Result := .next { s with imePending := true }

end Sys2Proof.Machine
end

