-- ==== Sys2Proof/Machine/Prefix.lean ====
section
/-! DEFINITION. PREFIX CB (spec/46_system.md R276): the second byte is fetched inside the same step and its entry of the
second table is executed. -/

namespace Sys2Proof.Machine

/-- The meanings of row 0x of the second table (R109). -/
def meaningRow0 : Vector (State → Result) 16 :=
  #v[execRlcB, execRlcC, execRlcD, execRlcE, execRlcH, execRlcL, execRlcAtHl, execRlcA, execRrcB, execRrcC,
   execRrcD, execRrcE, execRrcH, execRrcL, execRrcAtHl, execRrcA]

/-- The meanings of row 1x of the second table (R109). -/
def meaningRow1 : Vector (State → Result) 16 :=
  #v[execRlB, execRlC, execRlD, execRlE, execRlH, execRlL, execRlAtHl, execRlA, execRrB, execRrC, execRrD,
   execRrE, execRrH, execRrL, execRrAtHl, execRrA]

/-- The meanings of row 2x of the second table (R109). -/
def meaningRow2 : Vector (State → Result) 16 :=
  #v[execSlaB, execSlaC, execSlaD, execSlaE, execSlaH, execSlaL, execSlaAtHl, execSlaA, execSraB, execSraC,
   execSraD, execSraE, execSraH, execSraL, execSraAtHl, execSraA]

/-- The meanings of row 3x of the second table (R109). -/
def meaningRow3 : Vector (State → Result) 16 :=
  #v[execSwapB, execSwapC, execSwapD, execSwapE, execSwapH, execSwapL, execSwapAtHl, execSwapA, execSrlB,
   execSrlC, execSrlD, execSrlE, execSrlH, execSrlL, execSrlAtHl, execSrlA]

/-- The meanings of row 4x of the second table (R109). -/
def meaningRow4 : Vector (State → Result) 16 :=
  #v[execBit0B, execBit0C, execBit0D, execBit0E, execBit0H, execBit0L, execBit0AtHl, execBit0A, execBit1B,
   execBit1C, execBit1D, execBit1E, execBit1H, execBit1L, execBit1AtHl, execBit1A]

/-- The meanings of row 5x of the second table (R109). -/
def meaningRow5 : Vector (State → Result) 16 :=
  #v[execBit2B, execBit2C, execBit2D, execBit2E, execBit2H, execBit2L, execBit2AtHl, execBit2A, execBit3B,
   execBit3C, execBit3D, execBit3E, execBit3H, execBit3L, execBit3AtHl, execBit3A]

/-- The meanings of row 6x of the second table (R109). -/
def meaningRow6 : Vector (State → Result) 16 :=
  #v[execBit4B, execBit4C, execBit4D, execBit4E, execBit4H, execBit4L, execBit4AtHl, execBit4A, execBit5B,
   execBit5C, execBit5D, execBit5E, execBit5H, execBit5L, execBit5AtHl, execBit5A]

/-- The meanings of row 7x of the second table (R109). -/
def meaningRow7 : Vector (State → Result) 16 :=
  #v[execBit6B, execBit6C, execBit6D, execBit6E, execBit6H, execBit6L, execBit6AtHl, execBit6A, execBit7B,
   execBit7C, execBit7D, execBit7E, execBit7H, execBit7L, execBit7AtHl, execBit7A]

/-- The meanings of row 8x of the second table (R109). -/
def meaningRow8 : Vector (State → Result) 16 :=
  #v[execRes0B, execRes0C, execRes0D, execRes0E, execRes0H, execRes0L, execRes0AtHl, execRes0A, execRes1B,
   execRes1C, execRes1D, execRes1E, execRes1H, execRes1L, execRes1AtHl, execRes1A]

/-- The meanings of row 9x of the second table (R109). -/
def meaningRow9 : Vector (State → Result) 16 :=
  #v[execRes2B, execRes2C, execRes2D, execRes2E, execRes2H, execRes2L, execRes2AtHl, execRes2A, execRes3B,
   execRes3C, execRes3D, execRes3E, execRes3H, execRes3L, execRes3AtHl, execRes3A]

/-- The meanings of row Ax of the second table (R109). -/
def meaningRowA : Vector (State → Result) 16 :=
  #v[execRes4B, execRes4C, execRes4D, execRes4E, execRes4H, execRes4L, execRes4AtHl, execRes4A, execRes5B,
   execRes5C, execRes5D, execRes5E, execRes5H, execRes5L, execRes5AtHl, execRes5A]

/-- The meanings of row Bx of the second table (R109). -/
def meaningRowB : Vector (State → Result) 16 :=
  #v[execRes6B, execRes6C, execRes6D, execRes6E, execRes6H, execRes6L, execRes6AtHl, execRes6A, execRes7B,
   execRes7C, execRes7D, execRes7E, execRes7H, execRes7L, execRes7AtHl, execRes7A]

/-- The meanings of row Cx of the second table (R109). -/
def meaningRowC : Vector (State → Result) 16 :=
  #v[execSet0B, execSet0C, execSet0D, execSet0E, execSet0H, execSet0L, execSet0AtHl, execSet0A, execSet1B,
   execSet1C, execSet1D, execSet1E, execSet1H, execSet1L, execSet1AtHl, execSet1A]

/-- The meanings of row Dx of the second table (R109). -/
def meaningRowD : Vector (State → Result) 16 :=
  #v[execSet2B, execSet2C, execSet2D, execSet2E, execSet2H, execSet2L, execSet2AtHl, execSet2A, execSet3B,
   execSet3C, execSet3D, execSet3E, execSet3H, execSet3L, execSet3AtHl, execSet3A]

/-- The meanings of row Ex of the second table (R109). -/
def meaningRowE : Vector (State → Result) 16 :=
  #v[execSet4B, execSet4C, execSet4D, execSet4E, execSet4H, execSet4L, execSet4AtHl, execSet4A, execSet5B,
   execSet5C, execSet5D, execSet5E, execSet5H, execSet5L, execSet5AtHl, execSet5A]

/-- The meanings of row Fx of the second table (R109). -/
def meaningRowF : Vector (State → Result) 16 :=
  #v[execSet6B, execSet6C, execSet6D, execSet6E, execSet6H, execSet6L, execSet6AtHl, execSet6A, execSet7B,
   execSet7C, execSet7D, execSet7E, execSet7H, execSet7L, execSet7AtHl, execSet7A]

/-- The second table's meanings, in the order of `secondTable` (R109). -/
def secondMeanings : Vector (Vector (State → Result) 16) 16 :=
  #v[meaningRow0, meaningRow1, meaningRow2, meaningRow3, meaningRow4, meaningRow5, meaningRow6, meaningRow7,
    meaningRow8, meaningRow9, meaningRowA, meaningRowB, meaningRowC, meaningRowD, meaningRowE, meaningRowF]

/-- The operation of the second table's entry for `opcode2` (R276). -/
def execSecond (op : Byte) (s : State) : Result :=
  secondMeanings[hiNibble op][loNibble op] s

/-- PREFIX CB: `opcode2 <- Fetch8(); execute the entry of the second table for opcode2` (R276). -/
def execPrefixCb (s : State) : Result :=
  let r := fetch8 s
  execSecond r.1 r.2

end Sys2Proof.Machine
end

