-- ==== Sys2Proof/Machine/Fetch.lean ====
section
/-! DEFINITION. Fetching an instruction (spec/46_system.md R270, R278; spec/30_encoding.md R101) and what a step does with
the outcome of its operation. -/

namespace Sys2Proof.Machine

/-- Fetch the opcode, then the operand bytes its slot of the first table asks for, one cycle each, low byte first
(R101, R270). STOP's second byte is not fetched (R273), and PREFIX CB's operation fetches its own (R276). DEDUCED, log 10. -/
def fetchInstr (s : State) : Instr × State :=
  let o := fetch8 s
  match firstEntry o.1 with
  | .op i => (i, o.2)
  | .n8 k =>
    let n := fetch8 o.2
    (k n.1, n.2)
  | .n16 k =>
    let n := fetch16 o.2
    (k n.1, n.2)
  | .skip i => (i, o.2)
  | .cb => (.prefixCb, o.2)

/-- After the operation: a step that raised Fatal ends at once, any other ends with the interrupt check and the
promotion (R270, R277). -/
def finishStep : Result → Result
  | .next t => .next (if t.fatal then t else endOfStep t)
  | .fault r => .fault r
  | .refused r => .refused r

/-- Whether a bus address holds a byte that a program can be put at: the ROM image, VRAM, WRAM or HRAM. -/
def placeable (a : Word) : Bool :=
  match regionOf a with
  | .cartRom => true
  | .vram => true
  | .wram => true
  | .hram => true
  | .cartRam => false
  | .echo => false
  | .oam => false
  | .prohibited => false
  | .io => false
  | .ie => false

/-- The state with bytes put in memory from address `a` on. -/
def placeBytes (s : State) (a : Word) : List Byte → State
  | [] => s
  | v :: vs => placeBytes (memStore s a.toNat v) (a + 1) vs

/-- The state about to fetch `bytes`: they stand at PC, the CPU runs, and the ROM window is the image's. Where PC's
three bytes are no memory, PC moves to the start of WRAM. -/
def placeInstr (s : State) (bytes : List Byte) : State :=
  let pc := if placeable s.pc && placeable (s.pc + 1) && placeable (s.pc + 2) then s.pc else 0xC000#16
  placeBytes { s with pc := pc, halted := false, fatal := false, cart := .rom32k } pc bytes

end Sys2Proof.Machine
end

