-- ==== Sys2Proof/Machine/Step.lean ====
section
/-! DEFINITION. `Step` (spec/46_system.md R270): the one transition of the one agent, and where a tool puts the
instruction that the next step runs. -/

namespace Sys2Proof.Machine

/-- One step: nothing after Fatal; a halted tick; or fetch, decode and execute one instruction; then, but for Fatal,
the interrupt check and the promotion (R270). -/
def step (s : State) : Host.Outcome State Fault Refusal :=
  if s.fatal then .next s
  else if s.halted then .next (endOfStep (haltedTick s))
  else
    let r := fetchInstr s
    finishStep (exec r.1 r.2)

/-- `s` with the instruction whose bits are `w` stored where step fetches its next instruction (at PC), zero bytes after
it up to three bytes. A program is loaded from outside the machine (R390): log 13. -/
def State.withFetchWord (s : State) (nbits w : Nat) : State :=
  placeInstr s ((tableBytes nbits w ++ [0, 0]).take 3)

end Sys2Proof.Machine
end

