-- ==== Sys2Proof/Machine/HostMoves.lean ====
section
/-! DEFINITION. The host's moves, made between steps and never inside one (spec/60_exceptions.md R390; the loop of
spec/46_system.md R270 (g)). DESIGN CHOICE, log 9: they are no part of `step`. -/

namespace Sys2Proof.Machine

/-- The moves of R390's table. `load` puts bytes at a bus address (the cartridge's image, or initial RAM contents) and
supplies the cartridge: log 18. `inspect` is a debug read and `debugWrite` a debug write: "debug tooling can address
memory identically to the CPU" (R69, R375, and the ruling D34 of R390). -/
inductive HostMove where
  | reset
  | load (cart : Cart) (addr : Word) (bytes : List Byte)
  | requestSerial
  | requestJoypad
  | setJoypad (snapshot : Byte)
  | takeFrame
  | stop
  | inspect (addr : Word)
  | debugWrite (addr : Word) (v : Byte)
  deriving DecidableEq, Repr

/-- The 23040 colours a host that takes the frame reads, pixel `(x, y)` at index `x + 160*y` (R317, R390). -/
def frameOf (s : State) : List Colour := (List.range 23040).map (framebufferRead s.ppu.framebuffer)

/-- The bytes of the cartridge's image, which is the collaborator's and no part of the aggregate (R20, R44). -/
def cartImage (m : Memory) : Memory := m.filter (fun c => decide (c.1 < 0x8000))

/-- The timer after a reset: the reference timer at the values of `RESET`, an external one as it was (R44, R401). -/
def resetTimer (r : ResetValues) : Timer → Timer
  | .reference _ => .reference r.timer
  | .external own => .external own

/-- Reset replaces the whole aggregate by the values of `RESET` (R400); the collaborators' own data, the cartridge and its
image, the joypad, the audio unit and an external timer, are outside it (R20, R44: "the collaborator's own business").
DESIGN CHOICE, log 18. -/
def resetMove (s : State) : State :=
  { State.launched s.params s.launch with
    mem := cartImage s.mem, cart := s.cart, joypad := s.joypad, audio := s.audio, timer := resetTimer s.launch s.timer }

/-- The effect of a move on the machine (R390). -/
def hostMove (s : State) : HostMove → State
  | .reset => resetMove s
  | .load cart addr bytes => placeBytes { s with cart := cart } addr bytes
  | .requestSerial => request s .serial
  | .requestJoypad => request s .joypad
  | .setJoypad v => { s with joypad := joypadInput s.joypad v }
  | .takeFrame => { s with ppu := { s.ppu with frameReady := false } }
  | .stop => { s with stopRequested := true }
  | .inspect _ => s
  | .debugWrite addr v => busWrite s addr v

/-- Whether the host's loop calls `Step` again: `not fatal and not stop_requested` (R270 (g)). -/
def hostContinues (s : State) : Bool := !s.fatal && !s.stopRequested

end Sys2Proof.Machine
end

