-- ==== Sys2Proof/Safety.lean ====
section
/-! DEFINITION. What a well-formed state is (the invariants of spec/10_state.md R23, R32, R39, spec/48_ppu_modes.md R321 and
spec/49_ppu_fetcher.md R343, R347), and the terms in which the statements speak of what an instruction leaves alone. -/

namespace Sys2Proof.Machine

/-! ### Invariants -/

/-- The low nibble of F is zero (R23). -/
abbrev flagsInv (s : State) : Prop := s.f &&& 0x0F#8 = 0x00#8

/-- Memory is in canonical form. -/
abbrev memoryInv (s : State) : Prop := Memory.wf s.mem = true

/-- The DMA unit's counters stay in the ranges of R39, and an active transfer has a byte left to copy (R385). -/
abbrev dmaInv (d : Dma) : Prop := d.nextByte ≤ 160 ∧ d.delay ≤ 2 ∧ (d.active = true → d.nextByte < 160)

/-- STAT stores its four enable bits only (R32). -/
abbrev statInv (p : Ppu) : Prop := p.statEn &&& 0x87#8 = 0x00#8

/-- Fatal always comes with its record (R26, R360). -/
abbrev fatalInv (s : State) : Prop := s.fatal = true → s.fatalInfo ≠ none

/-- The fetcher's state after `n` of its steps since the start of pixel-transfer, no push having failed (R333, R347). -/
def fetchStateAt (n : Nat) : FetchState :=
  if n % 5 = 0 then .tile else if n % 5 = 1 then .dataLo else if n % 5 = 2 then .dataHi
  else if n % 5 = 3 then .idle else .push

/-- How many colours have been popped `k` dots after the start of pixel-transfer: none in the first 20, then eight in
each ten (R347). -/
def popsAt (k : Nat) : Nat := if k < 20 then 0 else 8 * ((k - 20) / 10) + min 8 ((k - 20) % 10 + 1)

/-- What holds of the fetcher and the FIFO between two dots of pixel-transfer (R321, R343, R347). -/
abbrev transferInv (p : Ppu) : Prop :=
  80 ≤ p.dot ∧
  p.fetcher.fstate = fetchStateAt ((p.dot - 80) / 2) ∧
  p.fetcher.fifo.length + popsAt (p.dot - 80) = 8 * ((p.dot - 80) / 10) ∧
  p.fetcher.fetchX = 8 * (((p.dot - 80) / 2 + 4) / 5) ∧
  p.fetcher.fifoX = 8 * ((p.dot - 80) / 10) ∧
  p.fetcher.lineX = popsAt (p.dot - 80) ∧
  p.fetcher.pushedX ≤ p.fetcher.lineX ∧ p.fetcher.lineX ≤ p.fetcher.pushedX + 7 ∧
  p.fetcher.pushedX ≤ 159

/-- The picture generator between ticks: R321's list, with the window-line counter never ahead of the line and with
`transferInv` in pixel-transfer. -/
abbrev pictureInv (p : Ppu) : Prop :=
  p.dot ≤ 455 ∧ p.ly.toNat ≤ 153 ∧
  (p.mode = .vblank ↔ 144 ≤ p.ly.toNat) ∧
  (p.mode = .oamScan → p.dot ≤ 79) ∧
  (p.mode = .transfer → transferInv p) ∧
  (p.mode ≠ .transfer → p.fetcher.fifo = []) ∧
  p.lineSprites.length ≤ 10 ∧ p.fetcher.fetched.length ≤ 3 ∧
  p.windowLine ≤ 144 ∧ p.windowLine ≤ p.ly.toNat ∧
  framebufferWf p.framebuffer = true

/-- The same parameters (R6, R43). -/
abbrev sameBuild (s t : State) : Prop := t.params = s.params ∧ t.launch = s.launch

/-- The record `RESET` is one the machine can start from: what the invariants below ask of the values in it. -/
abbrev launchInv (r : ResetValues) : Prop :=
  r.f &&& 0x0F#8 = 0x00#8 ∧ dmaInv r.dma ∧ statInv r.ppu ∧ pictureInv r.ppu

/-- Every invariant of the machine between steps. -/
abbrev machineInv (s : State) : Prop :=
  flagsInv s ∧ memoryInv s ∧ dmaInv s.dma ∧ statInv s.ppu ∧ fatalInv s ∧ pictureInv s.ppu

/-! ### What an instruction leaves alone -/

/-- The same eight registers, F included (R21, R23). -/
abbrev sameRegisters (s t : State) : Prop := (∀ r, readReg t r = readReg s r) ∧ t.f = s.f

/-- The same 8-bit registers but for those listed, F not spoken of (R21). -/
abbrev sameRegistersBut (rs : List Reg8) (s t : State) : Prop := ∀ q, q ∉ rs → readReg t q = readReg s q

/-- The same run state and interrupt-enable bits (R26, R27). -/
abbrev sameControl (s t : State) : Prop :=
  t.halted = s.halted ∧ t.fatal = s.fatal ∧ t.fatalInfo = s.fatalInfo ∧ t.stopRequested = s.stopRequested ∧
  t.ime = s.ime ∧ t.imePending = s.imePending

/-- The same stack pointer, program counter, run state and interrupt-enable bits. -/
abbrev sameFlow (s t : State) : Prop := t.sp = s.sp ∧ t.pc = s.pc ∧ sameControl s t

/-- Nothing was stored and no time passed: every address of the bus reads the same and every unit is in the same state. -/
abbrev sameOutside (s t : State) : Prop :=
  (∀ a, busRead t a = busRead s a) ∧ t.mem = s.mem ∧ t.ppu = s.ppu ∧ t.timer = s.timer ∧ t.dma = s.dma ∧
  t.dmaReg = s.dmaReg ∧ t.ie = s.ie ∧ t.intf = s.intf ∧ t.sb = s.sb ∧ t.sc = s.sc ∧ t.cart = s.cart ∧
  t.joypad = s.joypad ∧ t.audio = s.audio ∧ t.params = s.params ∧ t.launch = s.launch ∧ t.ticks = s.ticks

/-- The machine less what the CPU engine owns: two states with the same one agree on memory and on every unit. -/
def outside (s : State) : State :=
  { s with
    a := 0, f := 0, b := 0, c := 0, d := 0, e := 0, h := 0, l := 0, sp := 0, pc := 0,
    halted := false, fatal := false, fatalInfo := none, stopRequested := false, ime := false, imePending := false }

/-- Addresses whose byte belongs to an external collaborator, which may change it at any tick, read or write (R66, R71,
R72, R76, R380). -/
def externalByte (s : State) (a : Word) : Bool :=
  match regionOf a with
  | .cartRom => decide (s.cart ≠ .rom32k)
  | .cartRam => decide (s.cart ≠ .rom32k)
  | .io =>
    match ioRegAt a with
    | .p1 => match s.joypad with | .snapshot _ => false | .external _ => true
    | .timer _ => match s.timer with | .reference _ => false | .external _ => true
    | .audio _ => decide (s.audio ≠ .silent)
    | _ => false
  | _ => false

/-- Addresses whose byte a tick of a unit inside the machine may change: a counter, the line, the status, the pending
mask, and OAM while a transfer runs (R69, R292). -/
def tickedByte (s : State) (a : Word) : Bool :=
  match regionOf a with
  | .oam => s.dma.active
  | .io => [IoReg.timer .div, .timer .tima, .intf, .stat, .ly].contains (ioRegAt a)
  | _ => false

/-- Addresses whose byte no tick changes. -/
def steadyAddr (s : State) (a : Word) : Bool := !externalByte s a && !tickedByte s a

/-- The addresses at which an instruction that stores at `stores` leaves the byte that was there: those that are not
stored to, that no tick changes, and, if a store starts a transfer (0xFF46), that are not in OAM. -/
abbrev untouched (s : State) (stores : List Word) (a : Word) : Prop :=
  a ∉ stores ∧ steadyAddr s a = true ∧ (regionOf a = .oam → 0xFF46#16 ∉ stores)

/-- Addresses where a stored byte can be read back: video RAM, work RAM, high RAM, OAM while no transfer runs, and IE
(R61, R67, R69). -/
def storable (s : State) (a : Word) : Bool :=
  match regionOf a with
  | .cartRom => false
  | .vram => true
  | .cartRam => false
  | .wram => true
  | .echo => false
  | .oam => !s.dma.active
  | .prohibited => false
  | .io => false
  | .hram => true
  | .ie => true

/-- The state after a cycle that reads at `a`: the access, then the four dots (R10, R291). -/
abbrev readCycle (s : State) (a : Word) : State := advance 1 (afterRead s a)

/-- The state after a cycle that writes `v` at `a` (R10, R291). -/
abbrev writeCycle (s : State) (a : Word) (v : Byte) : State := advance 1 (busWrite s a v)

/-- `n` cycles passed with no access of the bus; the bytes no tick changes read as before. -/
abbrev tookCycles (n : Nat) (s t : State) : Prop :=
  outside t = outside (advance n s) ∧ ∀ a, steadyAddr s a = true → busRead t a = busRead s a

/-- One cycle passed, which read at `a`; the bytes no tick changes read as before. -/
abbrev tookRead (s t : State) (a : Word) : Prop :=
  outside t = outside (readCycle s a) ∧ ∀ b, steadyAddr s b = true → busRead t b = busRead s b

/-- One cycle passed, which stored `v` at `a`: every byte not stored to and not changed by ticks reads as before, and
the byte stored in RAM reads back. -/
abbrev tookWrite (s t : State) (a : Word) (v : Byte) : Prop :=
  outside t = outside (writeCycle s a v) ∧ (∀ b, untouched s [a] b → busRead t b = busRead s b) ∧
  (storable s a = true → busRead t a = v)

/-- Two cycles passed, the first read at `a`, the second stored `v` there (R75). -/
abbrev tookModify (s t : State) (a : Word) (v : Byte) : Prop :=
  outside t = outside (writeCycle (readCycle s a) a v) ∧ (∀ b, untouched s [a] b → busRead t b = busRead s b) ∧
  (storable s a = true → busRead t a = v)

/-- What two stores of a word leave: the bytes not stored to and not changed by ticks, and both bytes in RAM. -/
abbrev storedWord (s t : State) (hiAddr loAddr : Word) (v : Word) : Prop :=
  (∀ b, untouched s [hiAddr, loAddr] b → busRead t b = busRead s b) ∧
  (storable s hiAddr = true → storable s loAddr = true → busRead t hiAddr = hiByte v ∧ busRead t loAddr = loByte v)

/-- The cycles of `Push16(v)`: the high byte below SP, then the low byte below that (R153). -/
abbrev pushCycles (s : State) (v : Word) : State :=
  writeCycle (writeCycle s (s.sp - 1) (hiByte v)) (s.sp - 2) (loByte v)

/-- The word `Pop16()` reads: the low byte at SP, and a cycle later the high byte above it (R154). -/
abbrev poppedWord (s : State) : Word := wordOf (busRead (readCycle s s.sp) (s.sp + 1)) (busRead s s.sp)

/-- The cycles of `Pop16()` (R154). -/
abbrev popCycles (s : State) : State := readCycle (readCycle s s.sp) (s.sp + 1)

/-! ### Values -/

/-- The three operand forms of an accumulator operation (R162 to R185). -/
inductive AluOperand where
  | reg (r : Reg8)
  | atHl
  | imm (n : Byte)
  deriving DecidableEq, Repr

/-- The instruction of an accumulator operation with an operand. -/
def aluOf (op : AluOp) : AluOperand → Instr
  | .reg r => .aluReg op r
  | .atHl => .aluHl op
  | .imm n => .aluImm op n

/-- The operand's byte. -/
def operandOf (s : State) : AluOperand → Byte
  | .reg r => readReg s r
  | .atHl => busRead s (hlOf s)
  | .imm n => n

/-- What fetching the operand does outside the CPU: nothing, or one read at HL. -/
def operandTime (s t : State) : AluOperand → Prop
  | .reg _ => sameOutside s t
  | .atHl => tookRead s t (hlOf s)
  | .imm _ => sameOutside s t

/-- The result of a shifter function, on naturals, of a byte and a carry-in bit (R214). -/
def shiftedValue (op : ShiftOp) (v cin : Nat) : Nat :=
  match op with
  | .rlc => (2 * v + v / 128) % 256
  | .rrc => v / 2 + 128 * (v % 2)
  | .rl => (2 * v + cin) % 256
  | .rr => v / 2 + 128 * cin
  | .sla => 2 * v % 256
  | .sra => v / 2 + 128 * (v / 128)
  | .swap => 16 * (v % 16) + v / 16
  | .srl => v / 2

/-- The carry-out of a shifter function: the bit that leaves the byte, none for SWAP (R214). -/
def shiftedOut (op : ShiftOp) (v : Nat) : Bool :=
  match op with
  | .rlc => decide (128 ≤ v)
  | .rrc => decide (v % 2 = 1)
  | .rl => decide (128 ≤ v)
  | .rr => decide (v % 2 = 1)
  | .sla => decide (128 ≤ v)
  | .sra => decide (v % 2 = 1)
  | .swap => false
  | .srl => decide (v % 2 = 1)

/-- Whether a branch condition holds of a flag byte (R250). -/
def conditionMet (f : Byte) : Cond → Bool
  | .nz => !f.getLsbD 7
  | .z => f.getLsbD 7
  | .nc => !f.getLsbD 4
  | .c => f.getLsbD 4

/-- The two registers of a pair of table `rp`; SP has none (R21, R103). -/
def pairRegs : RegPair → List Reg8
  | .bc => [.b, .c]
  | .de => [.d, .e]
  | .hl => [.h, .l]
  | .sp => []

/-- The 8-bit registers of a pair of table `rp2`, F not counted (R21, R103). -/
def stackPairRegs : StackPair → List Reg8
  | .bc => [.b, .c]
  | .de => [.d, .e]
  | .hl => [.h, .l]
  | .af => [.a]

/-- `SHADE[P[2i+1:2i]]`: the colour of index `i` under palette register `P` (R34, R346). -/
def shadeColour (c : Params) (palette : Byte) (i : Nat) : Colour :=
  [c.shade0, c.shade1, c.shade2, c.shade3].getD (palette.toNat / 4 ^ i % 4) 0

/-- The two-bit colour index of a pixel of a tile row: the low bitplane byte's bit, then the high one's (R341, R345). -/
def pixelIndex (lo hi : Byte) (bit : Nat) : Nat := lo.toNat / 2 ^ bit % 2 + 2 * (hi.toNat / 2 ^ bit % 2)

/-- What a fetched sprite with the bytes `lo` and `hi` paints at FIFO column `col`, over a background pixel of index
`bgIdx`: nothing outside its eight columns, where it is transparent, or where its priority bit yields (R342). -/
def paintedBy (c : Params) (p : Ppu) (col bgIdx : Nat) (e : Sprite) (lo hi : Byte) : Option Colour :=
  let off : Int := (col : Int) - ((e.x.toNat : Int) - 8 + (p.scx.toNat % 8 : Nat))
  let i := pixelIndex lo hi (if e.attr.getLsbD 5 then off.toNat else 7 - off.toNat)
  if 0 ≤ off ∧ off ≤ 7 ∧ i ≠ 0 ∧ (e.attr.getLsbD 7 = true → bgIdx = 0) then
    some (shadeColour c (if e.attr.getLsbD 4 then p.obp1 else p.obp0) i)
  else none

/-- The colour of pixel `i` of the tile row that a push composes: the first fetched sprite that paints it, with sprites
enabled, else the background's (R341, R342). -/
def shownColour (c : Params) (p : Ppu) (i : Nat) : Colour :=
  let f := p.fetcher
  let bgIdx := if p.lcdc.getLsbD 0 then pixelIndex f.bgLo f.bgHi (7 - i) else 0
  let painted := (f.fetched.zip (f.sprLo.zip f.sprHi)).findSome? fun e => paintedBy c p (f.fifoX + i) bgIdx e.1 e.2.1 e.2.2
  if p.lcdc.getLsbD 1 then painted.getD (shadeColour c p.bgp bgIdx) else shadeColour c p.bgp bgIdx

/-- The two decimal digits of a number below 100 as a byte. -/
def bcd (n : Nat) : Byte := BitVec.ofNat 8 (16 * (n / 10) + n % 10)

/-- `n` bytes fetched one after another from PC, and the state after them. -/
def fetchRun : Nat → State → List Byte × State
  | 0, s => ([], s)
  | n + 1, s => ((fetch8 s).1 :: (fetchRun n (fetch8 s).2).1, (fetchRun n (fetch8 s).2).2)

/-- A state in which the next step fetches an instruction. -/
abbrev running (s : State) : Prop := s.fatal = false ∧ s.halted = false

end Sys2Proof.Machine
end

