-- ==== Sys2Proof/Certificates/Slice0/Obligations.lean ====
section
/-! DEFINITION. The statements about the machine, each from the numbered rules of spec/. An instruction's meaning is given
the state after the step has fetched its bytes, so a statement about `exec` counts the cycles after the fetches. -/

open Sys2Proof Sys2Proof.Machine

/-! ### Registers and loads -/

/-- R21, R23: a pair is its first-named register times 256 plus the second, F is the four flags over a low nibble that
every write forces to zero. -/
def Obligations.PairViewsAndFlagByte : Prop :=
  (∀ s : State, (bcOf s).toNat = 256 * s.b.toNat + s.c.toNat ∧ (deOf s).toNat = 256 * s.d.toNat + s.e.toNat ∧
    (hlOf s).toNat = 256 * s.h.toNat + s.l.toNat ∧
    (afOf s).toNat = 256 * s.a.toNat + 16 * (s.f.toNat / 16)) ∧
  (∀ v : Word, (hiByte v).toNat = v.toNat / 256 ∧ (loByte v).toNat = v.toNat % 256) ∧
  (∀ (s : State) (v : Byte), (writeF s v).f.toNat = 16 * (v.toNat / 16)) ∧
  (∀ z n h c : Bool,
    (packFlags z n h c).toNat = 128 * z.toNat + 64 * n.toNat + 32 * h.toNat + 16 * c.toNat)

/-- R130, R131: `LD r,r'` (49 opcodes) and `LD r,n8` (7) write the destination register and nothing else. -/
def Obligations.LoadRegisterWritesOnlyDestination : Prop :=
  (∀ (s : State) (dst src : Reg8), ∃ t, exec (.ldRegReg dst src) s = .next t ∧
    readReg t dst = readReg s src ∧ sameRegistersBut [dst] s t ∧ t.f = s.f ∧ sameFlow s t ∧ sameOutside s t) ∧
  (∀ (s : State) (dst : Reg8) (n : Byte), ∃ t, exec (.ldRegImm dst n) s = .next t ∧
    readReg t dst = n ∧ sameRegistersBut [dst] s t ∧ t.f = s.f ∧ sameFlow s t ∧ sameOutside s t)

/-- R132, R135, R136, R139, R141, R143: every load of a register from memory reads the byte at its address in one cycle
and changes no other register and no flag. -/
def Obligations.LoadFromMemoryReadsItsAddress : Prop :=
  ∀ (s : State) (n : Byte) (w : Word),
    (∀ dst : Reg8, ∃ t, exec (.ldRegHl dst) s = .next t ∧ readReg t dst = busRead s (hlOf s) ∧
      sameRegistersBut [dst] s t ∧ t.f = s.f ∧ sameFlow s t ∧ tookRead s t (hlOf s)) ∧
    (∀ ia ∈ [(Instr.ldAAtBc, bcOf s), (Instr.ldAAtDe, deOf s), (Instr.ldAAtN16 w, w),
        (Instr.ldhAAtC, BitVec.ofNat 16 (0xFF00 + s.c.toNat)),
        (Instr.ldhAAtN8 n, BitVec.ofNat 16 (0xFF00 + n.toNat))],
      ∃ t, exec ia.1 s = .next t ∧ t.a = busRead s ia.2 ∧ sameRegistersBut [.a] s t ∧ t.f = s.f ∧ sameFlow s t ∧
        tookRead s t ia.2)

/-- R133, R134, R137, R138, R140, R142, R144: every store of a byte writes it at its address in one cycle, changes no
register and no flag, and leaves every other byte that no tick changes. -/
def Obligations.StoreWritesOnlyItsAddress : Prop :=
  ∀ (s : State) (n : Byte) (w : Word),
    (∀ r : Reg8, ∃ t, exec (.ldHlReg r) s = .next t ∧ sameRegisters s t ∧ sameFlow s t ∧
      tookWrite s t (hlOf s) (readReg s r)) ∧
    (∀ iav ∈ [(Instr.ldAtHlN8 n, hlOf s, n), (Instr.ldAtBcA, bcOf s, s.a), (Instr.ldAtDeA, deOf s, s.a),
        (Instr.ldAtN16A w, w, s.a), (Instr.ldhAtCA, BitVec.ofNat 16 (0xFF00 + s.c.toNat), s.a),
        (Instr.ldhAtN8A n, BitVec.ofNat 16 (0xFF00 + n.toNat), s.a)],
      ∃ t, exec iav.1 s = .next t ∧ sameRegisters s t ∧ sameFlow s t ∧ tookWrite s t iav.2.1 iav.2.2)

/-- R145 to R148: the post-modify forms access the byte at the old HL, then step HL by one modulo 2^16, no flag changed. -/
def Obligations.PostModifyStepsHl : Prop :=
  ∀ s : State,
    (∀ id ∈ [(Instr.ldAAtHlInc, 1), (Instr.ldAAtHlDec, 65535)], ∃ t, exec id.1 s = .next t ∧
      t.a = busRead s (hlOf s) ∧ (hlOf t).toNat = ((hlOf s).toNat + id.2) % 65536 ∧
      sameRegistersBut [.a, .h, .l] s t ∧ t.f = s.f ∧ sameFlow s t ∧ tookRead s t (hlOf s)) ∧
    (∀ id ∈ [(Instr.ldAtHlIncA, 1), (Instr.ldAtHlDecA, 65535)], ∃ t, exec id.1 s = .next t ∧
      (hlOf t).toNat = ((hlOf s).toNat + id.2) % 65536 ∧ sameRegistersBut [.h, .l] s t ∧ t.f = s.f ∧ sameFlow s t ∧
      tookWrite s t (hlOf s) s.a)

/-- R150 to R152: `LD rr,n16` loads the pair or SP at once; `LD SP,HL` copies HL in one internal cycle; `LD (n16),SP` stores
SP's low byte at the address, and a cycle later its high byte at the next one. -/
def Obligations.SixteenBitLoads : Prop :=
  (∀ (s : State) (rr : RegPair) (n : Word), ∃ t, exec (.ldPairImm rr n) s = .next t ∧
    readPair t rr = n ∧ sameRegistersBut (pairRegs rr) s t ∧ t.f = s.f ∧ (rr ≠ .sp → t.sp = s.sp) ∧ t.pc = s.pc ∧
    sameControl s t ∧ sameOutside s t) ∧
  (∀ s : State, ∃ t, exec .ldSpHl s = .next t ∧ t.sp = hlOf s ∧ sameRegisters s t ∧ t.pc = s.pc ∧ sameControl s t ∧
    tookCycles 1 s t) ∧
  (∀ (s : State) (w : Word), ∃ t, exec (.ldAtN16Sp w) s = .next t ∧ sameRegisters s t ∧ sameFlow s t ∧
    outside t = outside (writeCycle (writeCycle s w (loByte s.sp)) (w + 1) (hiByte s.sp)) ∧
    storedWord s t (w + 1) w s.sp)

/-- R155, R203: `LD HL,SP+e8` and `ADD SP,e8` add the signed displacement to SP modulo 2^16, clear Z and N, and take H
and C from the unsigned addition of SP's low byte and the raw byte. -/
def Obligations.SpRelativeArithmetic : Prop :=
  ∀ (s : State) (e : Byte),
    (∃ t, exec (.ldHlSpE8 e) s = .next t ∧ ((hlOf t).toNat : Int) = ((s.sp.toNat : Int) + e.toInt) % 65536 ∧
      t.f = packFlags false false (decide (15 < s.sp.toNat % 16 + e.toNat % 16))
        (decide (255 < s.sp.toNat % 256 + e.toNat)) ∧
      sameRegistersBut [.h, .l] s t ∧ sameFlow s t ∧ tookCycles 1 s t) ∧
    (∃ t, exec (.addSpE8 e) s = .next t ∧ (t.sp.toNat : Int) = ((s.sp.toNat : Int) + e.toInt) % 65536 ∧
      t.f = packFlags false false (decide (15 < s.sp.toNat % 16 + e.toNat % 16))
        (decide (255 < s.sp.toNat % 256 + e.toNat)) ∧
      sameRegistersBut [] s t ∧ t.pc = s.pc ∧ sameControl s t ∧ tookCycles 2 s t)

/-! ### The stack -/

/-- R153: `PUSH rr` takes an internal cycle, then stores the pair's high byte at SP - 1 and its low byte at SP - 2, and
leaves SP there; no register and no flag changes. -/
def Obligations.PushStoresPairBelowSp : Prop :=
  ∀ (s : State) (rr : StackPair), ∃ t, exec (.push rr) s = .next t ∧ t.sp = s.sp - 2 ∧ sameRegisters s t ∧
    t.pc = s.pc ∧ sameControl s t ∧ outside t = outside (pushCycles (advance 1 s) (readStackPair s rr)) ∧
    storedWord s t (s.sp - 1) (s.sp - 2) (readStackPair s rr)

/-- R154: `POP rr` reads the low byte at SP and the high byte above it, and leaves SP two higher; POP AF drops the low
nibble of the flag byte, the other pops leave F. -/
def Obligations.PopLoadsPairFromStack : Prop :=
  ∀ (s : State) (rr : StackPair), ∃ t, exec (.pop rr) s = .next t ∧ t.sp = s.sp + 2 ∧
    (rr ≠ .af → readStackPair t rr = poppedWord s ∧ t.f = s.f) ∧
    (rr = .af → t.a = hiByte (poppedWord s) ∧ t.f = loByte (poppedWord s) &&& 0xF0#8) ∧
    sameRegistersBut (stackPairRegs rr) s t ∧ t.pc = s.pc ∧ sameControl s t ∧ outside t = outside (popCycles s) ∧
    ∀ b, steadyAddr s b = true → busRead t b = busRead s b

/-- R25, R154: a pair pushed onto RAM and popped at once is the pair it was, and SP is restored. -/
def Obligations.PushThenPopRestores : Prop :=
  ∀ (s : State) (rr : StackPair), flagsInv s → storable s (s.sp - 1) = true → storable s (s.sp - 2) = true →
    ∃ t u, exec (.push rr) s = .next t ∧ exec (.pop rr) t = .next u ∧
      readStackPair u rr = readStackPair s rr ∧ u.sp = s.sp ∧ sameRegisters s u

/-! ### 8-bit arithmetic and logic -/

/-- R160, R161, R162 to R167: ADD and ADC, over the three operand forms (18 instructions): the sum modulo 256 goes to A,
Z is the zero test of it, N is clear, H and C are the carries out of bits 3 and 7. -/
def Obligations.AddWritesSumAndCarries : Prop :=
  ∀ (s : State) (withCarry : Bool) (o : AluOperand),
    let a := s.a.toNat
    let b := (operandOf s o).toNat
    let c := (withCarry && flagC s).toNat
    ∃ t, exec (aluOf (if withCarry then .adc else .add) o) s = .next t ∧
      t.a.toNat = (a + b + c) % 256 ∧
      t.f = packFlags (decide ((a + b + c) % 256 = 0)) false (decide (15 < a % 16 + b % 16 + c))
        (decide (255 < a + b + c)) ∧
      sameRegistersBut [.a] s t ∧ sameFlow s t ∧ operandTime s t o

/-- R160, R161, R168 to R173: SUB and SBC, over the three operand forms (18 instructions): the difference modulo 256 goes
to A, N is set, H and C are the borrows from bits 4 and 8. -/
def Obligations.SubtractWritesDifferenceAndBorrows : Prop :=
  ∀ (s : State) (withCarry : Bool) (o : AluOperand),
    let a := s.a.toNat
    let b := (operandOf s o).toNat
    let c := (withCarry && flagC s).toNat
    ∃ t, exec (aluOf (if withCarry then .sbc else .sub) o) s = .next t ∧
      (t.a.toNat : Int) = ((a : Int) - b - c) % 256 ∧
      t.f = packFlags (decide (((a : Int) - b - c) % 256 = 0)) true (decide (a % 16 < b % 16 + c))
        (decide (a < b + c)) ∧
      sameRegistersBut [.a] s t ∧ sameFlow s t ∧ operandTime s t o

/-- R183 to R185: CP, over the three operand forms (9 instructions): Z says the operand equals A, C that A is below it,
H that A's low digit is below the operand's; A is not written. -/
def Obligations.CompareSetsFlagsOnly : Prop :=
  ∀ (s : State) (o : AluOperand), ∃ t, exec (aluOf .cp o) s = .next t ∧
    t.f = packFlags (decide (s.a = operandOf s o)) true (decide (s.a.toNat % 16 < (operandOf s o).toNat % 16))
      (decide (s.a.toNat < (operandOf s o).toNat)) ∧
    sameRegistersBut [] s t ∧ sameFlow s t ∧ operandTime s t o

/-- R174 to R182: AND, XOR and OR, over the three operand forms (27 instructions): bit by bit; Z tests the result, N and C
are clear, H is set by AND only. -/
def Obligations.LogicWorksBitByBit : Prop :=
  ∀ (s : State) (o : AluOperand), ∀ opf ∈ [(AluOp.and, Bool.and), (AluOp.xor, Bool.xor), (AluOp.or, Bool.or)],
    ∃ t, exec (aluOf opf.1 o) s = .next t ∧
      (∀ i, i < 8 → t.a.toNat.testBit i = opf.2 (s.a.toNat.testBit i) ((operandOf s o).toNat.testBit i)) ∧
      t.f = packFlags (decide (t.a = 0x00#8)) false (decide (opf.1 = .and)) false ∧
      sameRegistersBut [.a] s t ∧ sameFlow s t ∧ operandTime s t o

/-- R186 to R189: `INC r` and `DEC r` (14 instructions) step the register modulo 256, `INC (HL)` and `DEC (HL)` read the byte
in one cycle and store it stepped in the next; Z tests the result, N says which, H is the carry or borrow at bit 3 of the
byte read, C is unchanged. -/
def Obligations.IncDecKeepCarry : Prop :=
  (∀ (s : State) (r : Reg8),
    (∃ t, exec (.incReg r) s = .next t ∧ (readReg t r).toNat = ((readReg s r).toNat + 1) % 256 ∧
      t.f = packFlags (decide (readReg s r = 0xFF#8)) false (decide ((readReg s r).toNat % 16 = 15)) (flagC s) ∧
      sameRegistersBut [r] s t ∧ sameFlow s t ∧ sameOutside s t) ∧
    (∃ t, exec (.decReg r) s = .next t ∧ (readReg t r).toNat = ((readReg s r).toNat + 255) % 256 ∧
      t.f = packFlags (decide (readReg s r = 0x01#8)) true (decide ((readReg s r).toNat % 16 = 0)) (flagC s) ∧
      sameRegistersBut [r] s t ∧ sameFlow s t ∧ sameOutside s t)) ∧
  (∀ s : State,
    (∃ t, exec .incAtHl s = .next t ∧
      t.f = packFlags (decide (busRead s (hlOf s) = 0xFF#8)) false (decide ((busRead s (hlOf s)).toNat % 16 = 15))
        (flagC s) ∧
      sameRegistersBut [] s t ∧ sameFlow s t ∧
      tookModify s t (hlOf s) (BitVec.ofNat 8 ((busRead s (hlOf s)).toNat + 1))) ∧
    (∃ t, exec .decAtHl s = .next t ∧
      t.f = packFlags (decide (busRead s (hlOf s) = 0x01#8)) true (decide ((busRead s (hlOf s)).toNat % 16 = 0))
        (flagC s) ∧
      sameRegistersBut [] s t ∧ sameFlow s t ∧
      tookModify s t (hlOf s) (BitVec.ofNat 8 ((busRead s (hlOf s)).toNat + 255))))

/-- R190: DAA adds, or after a subtraction subtracts, 0x06 for the low digit and 0x60 for the high one, by the flags and
the old A; Z tests the result, N is unchanged, H is clear, C says the high correction was made. -/
def Obligations.DaaCorrectsByTheTable : Prop :=
  ∀ s : State,
    let a := s.a.toNat
    let low := flagH s || (!flagN s && decide (9 < a % 16))
    let high := flagC s || (!flagN s && decide (153 < a))
    let adj : Int := 6 * low.toNat + 96 * high.toNat
    ∃ t, exec .daa s = .next t ∧
      (t.a.toNat : Int) = (if flagN s then (a : Int) - adj else a + adj) % 256 ∧
      t.f = packFlags (decide (t.a = 0x00#8)) (flagN s) false high ∧
      sameRegistersBut [.a] s t ∧ sameFlow s t ∧ sameOutside s t

/-- R190: after ADD, or SUB, of two-digit decimal bytes, DAA leaves the decimal sum, or difference, modulo 100, with C
the decimal carry, or borrow. -/
def Obligations.DaaMakesDecimalArithmetic : Prop :=
  ∀ (s : State) (x y : Nat), x < 100 → y < 100 → s.a = bcd x →
    (∃ t u, exec (.addAN8 (bcd y)) s = .next t ∧ exec .daa t = .next u ∧
      u.a = bcd ((x + y) % 100) ∧ flagC u = decide (100 ≤ x + y)) ∧
    (∃ t u, exec (.subN8 (bcd y)) s = .next t ∧ exec .daa t = .next u ∧
      u.a = bcd ((x + 100 - y) % 100) ∧ flagC u = decide (x < y))

/-- R191 to R193: CPL complements A and sets N and H; SCF sets C, CCF complements it, both clear N and H; the flags not
named stay. -/
def Obligations.ComplementAndCarryFlags : Prop :=
  ∀ s : State,
    (∃ t, exec .cpl s = .next t ∧ t.a.toNat = 255 - s.a.toNat ∧ t.f = packFlags (flagZ s) true true (flagC s) ∧
      sameRegistersBut [.a] s t ∧ sameFlow s t ∧ sameOutside s t) ∧
    (∃ t, exec .scf s = .next t ∧ t.f = packFlags (flagZ s) false false true ∧ sameRegistersBut [] s t ∧
      sameFlow s t ∧ sameOutside s t) ∧
    (∃ t, exec .ccf s = .next t ∧ t.f = packFlags (flagZ s) false false (!flagC s) ∧ sameRegistersBut [] s t ∧
      sameFlow s t ∧ sameOutside s t)

/-! ### 16-bit arithmetic -/

/-- R160, R200: `ADD HL,rr` leaves the sum modulo 2^16 in HL, Z unchanged, N clear, H the carry out of bit 11 and C out of
bit 15, and takes one internal cycle. -/
def Obligations.AddHlCarriesAtBitsElevenAndFifteen : Prop :=
  ∀ (s : State) (rr : RegPair),
    let x := (hlOf s).toNat
    let y := (readPair s rr).toNat
    ∃ t, exec (.addHlPair rr) s = .next t ∧ (hlOf t).toNat = (x + y) % 65536 ∧
      t.f = packFlags (flagZ s) false (decide (4095 < x % 4096 + y % 4096)) (decide (65535 < x + y)) ∧
      sameRegistersBut [.h, .l] s t ∧ sameFlow s t ∧ tookCycles 1 s t

/-- R201, R202: `INC rr` and `DEC rr` step the pair modulo 2^16, change no flag, and take one internal cycle. -/
def Obligations.IncDecPairChangesNoFlag : Prop :=
  ∀ (s : State) (rr : RegPair), ∀ id ∈ [(Instr.incPair rr, 1), (Instr.decPair rr, 65535)],
    ∃ t, exec id.1 s = .next t ∧ (readPair t rr).toNat = ((readPair s rr).toNat + id.2) % 65536 ∧
      sameRegistersBut (pairRegs rr) s t ∧ t.f = s.f ∧ (rr ≠ .sp → t.sp = s.sp) ∧ t.pc = s.pc ∧ sameControl s t ∧
      tookCycles 1 s t

/-! ### Rotates, shifts, bits -/

/-- R210 to R230: RLCA, RRCA, RLA and RRA rotate A and always clear Z; the eight second-table shifters on the seven
registers (56 instructions) and on the byte at HL (8) test the result for Z; N and H are clear, C is the bit that left, none for SWAP. -/
def Obligations.RotatesAndShiftsMoveOneBit : Prop :=
  (∀ s : State, ∀ io ∈ [(Instr.rlca, ShiftOp.rlc), (Instr.rrca, ShiftOp.rrc), (Instr.rla, ShiftOp.rl),
      (Instr.rra, ShiftOp.rr)],
    ∃ t, exec io.1 s = .next t ∧ t.a.toNat = shiftedValue io.2 s.a.toNat (flagC s).toNat ∧
      t.f = packFlags false false false (shiftedOut io.2 s.a.toNat) ∧ sameRegistersBut [.a] s t ∧ sameFlow s t ∧
      sameOutside s t) ∧
  (∀ (s : State) (op : ShiftOp),
    (∀ r : Reg8, ∃ t, exec (.shiftReg op r) s = .next t ∧
      (readReg t r).toNat = shiftedValue op (readReg s r).toNat (flagC s).toNat ∧
      t.f = packFlags (decide (readReg t r = 0x00#8)) false false (shiftedOut op (readReg s r).toNat) ∧
      sameRegistersBut [r] s t ∧ sameFlow s t ∧ sameOutside s t) ∧
    (let v := (busRead s (hlOf s)).toNat
     let w := shiftedValue op v (flagC s).toNat
     ∃ t, exec (.shiftHl op) s = .next t ∧
      t.f = packFlags (decide (w = 0)) false false (shiftedOut op v) ∧ sameRegistersBut [] s t ∧ sameFlow s t ∧
      tookModify s t (hlOf s) (BitVec.ofNat 8 w)))

/-- R231, R232: `BIT b,r` (56 instructions) and `BIT b,(HL)` (8) set Z to the complement of the bit, clear N, set H, leave
C, and write no register and no byte. -/
def Obligations.BitTestsWriteFlagsOnly : Prop :=
  ∀ (s : State) (b : Fin 8),
    (∀ r : Reg8, ∃ t, exec (.bitReg b r) s = .next t ∧
      t.f = packFlags (!(readReg s r).toNat.testBit b.val) false true (flagC s) ∧ sameRegistersBut [] s t ∧
      sameFlow s t ∧ sameOutside s t) ∧
    (∃ t, exec (.bitHl b) s = .next t ∧
      t.f = packFlags (!(busRead s (hlOf s)).toNat.testBit b.val) false true (flagC s) ∧ sameRegistersBut [] s t ∧
      sameFlow s t ∧ tookRead s t (hlOf s))

/-- R233 to R236: RES and SET on a register (112 instructions) and on the byte at HL (16) change the one bit and no flag. -/
def Obligations.ResetAndSetChangeOneBit : Prop :=
  ∀ (s : State) (b : Fin 8),
    (∀ (r : Reg8), ∀ iv ∈ [(Instr.resReg b r, false), (Instr.setReg b r, true)], ∃ t, exec iv.1 s = .next t ∧
      (∀ i, i < 8 → (readReg t r).toNat.testBit i = if i = b.val then iv.2 else (readReg s r).toNat.testBit i) ∧
      sameRegistersBut [r] s t ∧ t.f = s.f ∧ sameFlow s t ∧ sameOutside s t) ∧
    (∀ iv ∈ [(Instr.resHl b, false), (Instr.setHl b, true)], ∃ (t : State) (v : Byte),
      exec iv.1 s = .next t ∧
      (∀ i, i < 8 → v.toNat.testBit i = if i = b.val then iv.2 else (busRead s (hlOf s)).toNat.testBit i) ∧
      sameRegisters s t ∧ sameFlow s t ∧ tookModify s t (hlOf s) v)

/-! ### Control transfer -/

/-- R250 to R255: the jumps. A taken JP or JR goes to its target and takes one internal cycle, JP HL none; a conditional
one not taken changes nothing; no jump changes a register or a flag. -/
def Obligations.JumpsSetPc : Prop :=
  ∀ (s : State) (n : Word) (e : Byte),
    (∀ i, (i = .jpN16 n ∨ ∃ cc, conditionMet s.f cc = true ∧ i = .jpCond cc n) →
      ∃ t, exec i s = .next t ∧ t.pc = n ∧ sameRegisters s t ∧ t.sp = s.sp ∧ sameControl s t ∧ tookCycles 1 s t) ∧
    (∀ i, (i = .jrE8 e ∨ ∃ cc, conditionMet s.f cc = true ∧ i = .jrCond cc e) →
      ∃ t, exec i s = .next t ∧ (t.pc.toNat : Int) = ((s.pc.toNat : Int) + e.toInt) % 65536 ∧
        sameRegisters s t ∧ t.sp = s.sp ∧ sameControl s t ∧ tookCycles 1 s t) ∧
    (∃ t, exec .jpHl s = .next t ∧ t.pc = hlOf s ∧ sameRegisters s t ∧ t.sp = s.sp ∧ sameControl s t ∧
      sameOutside s t) ∧
    (∀ cc : Cond, conditionMet s.f cc = false →
      exec (.jpCond cc n) s = .next s ∧ exec (.jrCond cc e) s = .next s)

/-- R256, R257, R261: a CALL (the conditional ones when taken) and the eight RST take an internal cycle, push PC (the
address after the instruction) and jump; a conditional CALL not taken changes nothing. -/
def Obligations.CallsPushReturnAddress : Prop :=
  ∀ (s : State) (n : Word),
    (∀ (i : Instr) (target : Word),
      ((i = .callN16 n ∨ ∃ cc, conditionMet s.f cc = true ∧ i = .callCond cc n) ∧ target = n ∨
        ∃ y : Fin 8, i = .rst y ∧ target.toNat = 8 * y.val) →
      ∃ t, exec i s = .next t ∧ t.pc = target ∧ t.sp = s.sp - 2 ∧ sameRegisters s t ∧ sameControl s t ∧
        outside t = outside (pushCycles (advance 1 s) s.pc) ∧ storedWord s t (s.sp - 1) (s.sp - 2) s.pc) ∧
    (∀ cc : Cond, conditionMet s.f cc = false → exec (.callCond cc n) s = .next s)

/-- R258 to R260, R371: RET pops PC and takes an internal cycle; RETI does the same and sets IME at once; RET cc spends a
leading internal cycle, then returns or does nothing more. -/
def Obligations.ReturnsPopPc : Prop :=
  ∀ s : State,
    (∃ t, exec .ret s = .next t ∧ t.pc = poppedWord s ∧ t.sp = s.sp + 2 ∧ sameRegisters s t ∧ sameControl s t ∧
      outside t = outside (advance 1 (popCycles s)) ∧ ∀ b, steadyAddr s b = true → busRead t b = busRead s b) ∧
    (∃ t, exec .reti s = .next t ∧ t.pc = poppedWord s ∧ t.sp = s.sp + 2 ∧ t.ime = true ∧
      t.imePending = s.imePending ∧ t.halted = s.halted ∧ t.fatal = s.fatal ∧ sameRegisters s t ∧
      outside t = outside (advance 1 (popCycles s)) ∧ ∀ b, steadyAddr s b = true → busRead t b = busRead s b) ∧
    (∀ cc : Cond, conditionMet s.f cc = true →
      ∃ t, exec (.retCond cc) s = .next t ∧ t.pc = poppedWord (advance 1 s) ∧ t.sp = s.sp + 2 ∧ sameRegisters s t ∧
        sameControl s t ∧ outside t = outside (advance 1 (popCycles (advance 1 s))) ∧
        ∀ b, steadyAddr s b = true → busRead t b = busRead s b) ∧
    (∀ cc : Cond, conditionMet s.f cc = false →
      ∃ t, exec (.retCond cc) s = .next t ∧ sameRegisters s t ∧ sameFlow s t ∧ tookCycles 1 s t)

/-- R256, R258: with the stack in RAM, CALL then RET comes back to the address after the CALL with SP restored and every
register as it was. -/
def Obligations.CallThenReturnComesBack : Prop :=
  ∀ (s : State) (n : Word), storable s (s.sp - 1) = true → storable s (s.sp - 2) = true →
    ∃ t u, exec (.callN16 n) s = .next t ∧ exec .ret t = .next u ∧ u.pc = s.pc ∧ u.sp = s.sp ∧ sameRegisters s u ∧
      sameControl s u

/-! ### System instructions -/

/-- R271, R272, R274, R275: NOP changes nothing, HALT sets `halted` only, DI clears IME and the pending enable, EI sets the
pending enable only. -/
def Obligations.SystemInstructionsChangeRunStateOnly : Prop :=
  ∀ s : State, exec .nop s = .next s ∧ exec .halt s = .next { s with halted := true } ∧
    exec .di s = .next { s with ime := false, imePending := false } ∧
    exec .ei s = .next { s with imePending := true }

/-- R273: under `STOP_MODE = nop` STOP steps PC past its second byte without reading it and changes nothing else; under
`STOP_MODE = refuse` it is refused by name. `State.reset` has `nop`, the model's choice (log 3); the statement holds of
every state. -/
def Obligations.StopSkipsItsSecondByte : Prop :=
  (∀ s : State, s.params.stopMode = .nop → ∃ t, exec .stop s = .next t ∧ t.pc.toNat = (s.pc.toNat + 1) % 65536 ∧
    sameRegisters s t ∧ t.sp = s.sp ∧ sameControl s t ∧ sameOutside s t) ∧
  (∀ s : State, s.params.stopMode = .refuse → exec .stop s = .refused .stopRefused)

/-- R277: ILLEGAL sets `fatal` for good with the record of the opcode, the address it was fetched from and the dot count,
and changes no register, no flag and no byte. -/
def Obligations.IllegalRaisesFatal : Prop :=
  ∀ (s : State) (op : Byte), ∃ t, exec (.illegal op) s = .next t ∧ t.fatal = true ∧
    t.fatalInfo = some ⟨op, s.pc - 1, s.ticks⟩ ∧ sameRegisters s t ∧ t.sp = s.sp ∧ t.pc = s.pc ∧
    t.halted = s.halted ∧ t.ime = s.ime ∧ t.imePending = s.imePending ∧ sameOutside s t

/-- R276: PREFIX CB fetches the second byte in one cycle and does what the second table's instruction does; it answers a
next state for every byte, never a fatal one; both bytes are consumed in one step; the prefix does not nest. -/
def Obligations.PrefixRunsTheSecondTable : Prop :=
  (∀ s : State,
    exec .prefixCb s =
      exec (secondEntry (busRead s s.pc)) { readCycle s s.pc with pc := s.pc + 1 } ∧
    ∃ t, exec .prefixCb s = .next t ∧ t.fatal = s.fatal ∧ t.ime = s.ime ∧ t.imePending = s.imePending) ∧
  (∀ s : State, running s → busRead s s.pc = 0xCB#8 →
    step s = finishStep (exec (secondEntry (busRead (readCycle s s.pc) (s.pc + 1))) (fetchRun 2 s).2)) ∧
  secondEntry 0xCB#8 = .set1E ∧ secondEntry 0x37#8 = .swapA

/-- R27, R272, R277: over all instructions: only RETI sets IME, only EI sets the pending enable, only HALT halts, only
ILLEGAL is fatal, and none sets the host's stop flag. -/
def Obligations.WhoWritesTheRunState : Prop :=
  ∀ (i : Instr) (s t : State), exec i s = .next t →
    (t.ime = true → s.ime = true ∨ i = .reti) ∧
    (t.imePending = true → s.imePending = true ∨ i = .ei) ∧
    (t.halted = true → s.halted = true ∨ i = .halt) ∧
    (t.fatal = true → s.fatal = true ∨ ∃ op, i = .illegal op) ∧
    t.stopRequested = s.stopRequested

/-- R60, R270 (f), R361: an instruction and a step answer a next state, no fault and no refusal, but for STOP where
`STOP_MODE` is `refuse` (R273), which the model's choice in `State.reset` is not (log 3). -/
def Obligations.EveryStepCompletes : Prop :=
  (∀ (i : Instr) (s : State), (i = .stop → s.params.stopMode = .nop) → ∃ t, exec i s = .next t) ∧
  (∀ s : State, s.params.stopMode = .nop → ∃ t, step s = .next t) ∧
  (∀ s : State, running s → busRead s s.pc ≠ 0x10#8 → ∃ t, step s = .next t)

/-! ### The step -/

/-- R10, R24, R101, R270, R278: a fetch reads the byte at PC, takes one cycle and steps PC by one modulo 2^16; a running
step fetches the bytes of the instruction at PC, runs that instruction and ends the step; STOP's second byte is not
fetched (R273). -/
def Obligations.StepRunsTheDecodedInstruction : Prop :=
  (∀ (s : State) (n : Nat) (i : Instr), running s → decode (fetchRun n s).1 = .ok (i, []) → i ≠ .stop →
    step s = finishStep (exec i (fetchRun n s).2)) ∧
  (∀ s : State, running s → busRead s s.pc = 0x10#8 → step s = finishStep (exec .stop (fetchRun 1 s).2)) ∧
  (∀ s : State, (fetch8 s).1 = busRead s s.pc ∧ (fetch8 s).2.pc.toNat = (s.pc.toNat + 1) % 65536 ∧
    sameRegisters s (fetch8 s).2 ∧ (fetch8 s).2.sp = s.sp ∧ sameControl s (fetch8 s).2 ∧
    tookRead s (fetch8 s).2 s.pc)

/-- R270, R366, R367: what ends a step that did not raise Fatal: with IME set and an enabled source pending, the
lowest-numbered one is dispatched; otherwise only the delayed enable is promoted. -/
def Obligations.StepEndsWithOneInterruptCheck : Prop :=
  (∀ t : State, finishStep (.next t) = .next (if t.fatal then t else endOfStep t)) ∧
  (∀ s : State, (s.ime = false ∨ s.intf &&& s.ie &&& 0x1F#8 = 0x00#8) →
    endOfStep s = { s with ime := s.ime || s.imePending, imePending := false }) ∧
  (∀ (s : State) (k : Source), s.ime = true → s.intf.getLsbD (sourceIndex k) = true →
    s.ie.getLsbD (sourceIndex k) = true →
    (∀ j, j < sourceIndex k → s.intf.getLsbD j = false ∨ s.ie.getLsbD j = false) →
    endOfStep s = dispatchInterrupt s k)

/-- R270, R373, R405: a halted step is one cycle; an enabled pending source wakes the CPU without a fetch, and with
`IE & 0x1F = 0` it stays halted. -/
def Obligations.HaltedStepTicksAndWakes : Prop :=
  ∀ s : State, s.fatal = false → s.halted = true →
    ((advance 1 s).intf &&& s.ie &&& 0x1F#8 ≠ 0x00#8 →
      step s = .next (endOfStep { advance 1 s with halted := false })) ∧
    ((advance 1 s).intf &&& s.ie &&& 0x1F#8 = 0x00#8 →
      ∃ t, step s = .next t ∧ t.halted = true ∧ sameRegisters s t ∧ t.sp = s.sp ∧ t.pc = s.pc ∧ tookCycles 1 s t) ∧
    (s.ie &&& 0x1F#8 = 0x00#8 → ∃ t, step s = .next t ∧ t.halted = true ∧ t.ie = s.ie)

/-- R111, R360, R361: the 11 empty opcodes, and no other byte, make a running step fatal: one cycle elapsed, PC past the
byte, the record written, nothing else changed; after it a step is the identity, and of the host's moves only a reset
leaves the state. -/
def Obligations.FatalOnlyFromEmptyOpcodes : Prop :=
  (∀ s : State, running s → busRead s s.pc ∈ illegalOpcodes →
    step s = .next { readCycle s s.pc with
      pc := s.pc + 1, fatal := true, fatalInfo := some ⟨busRead s s.pc, s.pc, s.ticks + 4⟩ }) ∧
  (∀ s t : State, running s → busRead s s.pc ∉ illegalOpcodes → step s = .next t →
    t.fatal = false ∧ t.fatalInfo = s.fatalInfo) ∧
  (∀ s : State, s.fatal = true → step s = .next s) ∧
  (∀ (s : State) (m : HostMove), s.fatal = true → (hostMove s m).fatal = false → m = .reset)

/-- R275, R404: the step that runs EI with IME clear dispatches nothing and ends with IME set; the step that runs DI
dispatches nothing and ends with IME clear (R274). -/
def Obligations.EnableIsDelayedDisableIsNot : Prop :=
  (∀ s : State, running s → s.ime = false → busRead s s.pc = 0xFB#8 → ∃ t, step s = .next t ∧
    t.ime = true ∧ t.imePending = false ∧ t.pc = s.pc + 1 ∧ t.sp = s.sp ∧ sameRegisters s t ∧ tookRead s t s.pc) ∧
  (∀ s : State, running s → busRead s s.pc = 0xF3#8 → ∃ t, step s = .next t ∧
    t.ime = false ∧ t.imePending = false ∧ t.pc = s.pc + 1 ∧ t.sp = s.sp ∧ sameRegisters s t ∧ tookRead s t s.pc)

/-! ### Interrupts and time -/

/-- R364: `Request(k)` sets bit `k` of IF and does nothing else, whatever IE and IME are; a second request changes
nothing. -/
def Obligations.RequestSetsOneBit : Prop :=
  ∀ (s : State) (k : Source),
    (∀ i, i < 8 → (request s k).intf.getLsbD i = (s.intf.getLsbD i || decide (i = sourceIndex k))) ∧
    (∃ v, request s k = { s with intf := v }) ∧ request (request s k) k = request s k

/-- R369, R370: `Dispatch(k)` takes `INT_LEAD_TICKS` internal cycles, pushes PC, clears IME and the pending enable, goes to
`0x0040 + 8k`, clears bit `k` of IF after the pushes, takes `INT_TAIL_TICKS` internal cycles and leaves `halted`; no
register and no flag changes. It holds for every value of the two parameters; with the spec's defaults of 2 and 1, which
`State.reset` has (log 5), a dispatch is the five cycles of R370. -/
def Obligations.DispatchPushesPcAndVectors : Prop :=
  ∀ (s : State) (k : Source),
    let t := dispatchInterrupt s k
    let u := pushCycles (advance s.params.intLeadTicks s) s.pc
    t.pc.toNat = 64 + 8 * sourceIndex k ∧ t.sp = s.sp - 2 ∧ t.ime = false ∧ t.imePending = false ∧
    t.halted = false ∧ t.fatal = s.fatal ∧ t.stopRequested = s.stopRequested ∧ sameRegisters s t ∧
    outside t = outside (advance s.params.intTailTicks { u with intf := u.intf &&& ~~~(1#8 <<< sourceIndex k) }) ∧
    t.ticks = s.ticks + 4 * (s.params.intLeadTicks + 2 + s.params.intTailTicks) ∧
    storedWord s t (s.sp - 1) (s.sp - 2) s.pc

/-- R290 to R293, R387: `Advance(n)` is `4n` dots, splits over sums, changes no CPU register, no flag, not PC, SP, IME, the
pending enable, `halted` or IE, and of IF only sets bits, never one above bit 2: the sources that tick are VBLANK, STAT
and TIMER. One cycle is four dots, each the counter, the timer, the picture pipeline and the audio unit, in this order,
and then one tick of the DMA unit; so the timer and the picture generator have ticked four times after it, the audio
unit four times before the DMA unit's own read, and IF holds what the requests of the four dots leave. -/
def Obligations.TimeTouchesNoCpuState : Prop :=
  (∀ (m n : Nat) (s : State),
    advance (m + n) s = advance n (advance m s) ∧ (advance n s).ticks = s.ticks + 4 * n ∧
    sameRegisters s (advance n s) ∧ sameFlow s (advance n s) ∧ (advance n s).ie = s.ie ∧
    s.intf &&& (advance n s).intf = s.intf ∧ (advance n s).intf &&& 0xF8#8 = s.intf &&& 0xF8#8) ∧
  (∀ s : State,
    let dot := fun u : State => { tickPpu (tickTimer { u with ticks := u.ticks + 1 }) with audio := audioTick u.audio }
    let asked := (List.range 4).flatMap fun i =>
      timerRequests (timerTick^[i] s.timer) ++ ppuRequests s.params s.mem ((ppuTick s.params s.mem)^[i] s.ppu)
    advance 0 s = s ∧ advance 1 s = dmaTick (dot^[4] s) ∧
    (advance 1 s).timer = timerTick^[4] s.timer ∧ (advance 1 s).ppu = (ppuTick s.params s.mem)^[4] s.ppu ∧
    (dot^[4] s).audio = audioTick^[4] s.audio ∧ (s.dma.active = false → (advance 1 s).audio = audioTick^[4] s.audio) ∧
    (advance 1 s).intf = asked.foldl (fun v k => v ||| 1#8 <<< sourceIndex k) s.intf)

/-! ### The bus -/

/-- R42, R61, R62, R64 to R67, R69 to R72: what a read gives, for each row of the address map and of the I/O registers' table,
with the read-only image in the cartridge slot or an external cartridge, and with the parameters at whatever value they
have; the echo and prohibited ranges and the unmapped I/O addresses read as their parameter and discard writes. A read
changes nothing but a collaborator's own state, and no access of the bus depends on the dot counter (R42). -/
def Obligations.BusReadsByTheAddressMap : Prop :=
  ∀ (s : State) (a : Word),
    (a.toNat < 0x8000 → s.cart = .rom32k → busRead s a = s.mem.read a.toNat) ∧
    (0x8000 ≤ a.toNat → a.toNat < 0xA000 → busRead s a = s.mem.read a.toNat) ∧
    (0xA000 ≤ a.toNat → a.toNat < 0xC000 → s.cart = .rom32k → busRead s a = 0xFF#8) ∧
    (∀ own, (a.toNat < 0x8000 ∨ 0xA000 ≤ a.toNat ∧ a.toNat < 0xC000) → s.cart = .external own →
      busRead s a = Config.cartRead own a) ∧
    (0xC000 ≤ a.toNat → a.toNat < 0xE000 → busRead s a = s.mem.read a.toNat) ∧
    (0xE000 ≤ a.toNat → a.toNat < 0xFE00 → busRead s a = s.params.echoRead ∧ ∀ v, busWrite s a v = s) ∧
    (0xFE00 ≤ a.toNat → a.toNat < 0xFEA0 →
      busRead s a = if s.dma.active then s.params.oamDmaRead else s.mem.read a.toNat) ∧
    (0xFEA0 ≤ a.toNat → a.toNat < 0xFF00 → busRead s a = s.params.prohibitedRead ∧ ∀ v, busWrite s a v = s) ∧
    (∀ row ∈ [(0xFF00, joypadRead s.joypad), (0xFF01, s.sb), (0xFF02, s.sc), (0xFF04, timerRead s.timer .div),
        (0xFF05, timerRead s.timer .tima), (0xFF06, timerRead s.timer .tma), (0xFF07, timerRead s.timer .tac),
        (0xFF0F, s.intf), (0xFF40, s.ppu.lcdc),
        (0xFF41, 0x80#8 ||| (s.ppu.statEn &&& 0x78#8) ||| (if s.ppu.lycEq then 0x04#8 else 0x00#8) |||
          (match s.ppu.mode with | .hblank => 0x00#8 | .vblank => 0x01#8 | .oamScan => 0x02#8 | .transfer => 0x03#8)),
        (0xFF42, s.ppu.scy), (0xFF43, s.ppu.scx), (0xFF44, s.ppu.ly), (0xFF45, s.ppu.lyc), (0xFF46, s.dmaReg),
        (0xFF47, s.ppu.bgp), (0xFF48, s.ppu.obp0), (0xFF49, s.ppu.obp1), (0xFF4A, s.ppu.wy), (0xFF4B, s.ppu.wx)],
      a.toNat = row.1 → busRead s a = row.2) ∧
    (0xFF10 ≤ a.toNat → a.toNat ≤ 0xFF3F → busRead s a = audioRead s.audio a) ∧
    (a.toNat = 0xFF03 ∨ 0xFF08 ≤ a.toNat ∧ a.toNat ≤ 0xFF0E ∨ 0xFF4C ≤ a.toNat ∧ a.toNat ≤ 0xFF7F →
      busRead s a = s.params.ioUnmappedRead ∧ ∀ v, busWrite s a v = s) ∧
    (0xFF80 ≤ a.toNat → a.toNat < 0xFFFF → busRead s a = s.mem.read a.toNat) ∧
    (a.toNat = 0xFFFF → busRead s a = s.ie) ∧
    (∃ c j u, afterRead s a = { s with cart := c, joypad := j, audio := u }) ∧
    (∀ n v, busRead { s with ticks := n } a = busRead s a ∧
      afterRead { s with ticks := n } a = { afterRead s a with ticks := n } ∧
      busWrite { s with ticks := n } a v = { busWrite s a v with ticks := n })

/-- R63, R67, R69: a byte stored in RAM reads back, and the store leaves every other address as it was, but that a store at
0xFF46 starts a transfer, that OAM is closed while one runs, and that an external collaborator may change what its own
addresses read and an external timer may request TIMER. -/
def Obligations.ReadAfterWrite : Prop :=
  (∀ (s : State) (a : Word) (v : Byte), storable s a = true → busRead (busWrite s a v) a = v) ∧
  (∀ (s : State) (a b : Word) (v : Byte), b ≠ a → externalByte s b = false → (regionOf b = .oam → a ≠ 0xFF46#16) →
    (b = 0xFF0F#16 → ∃ t, s.timer = .reference t) → busRead (busWrite s a v) b = busRead s b) ∧
  (∀ (s : State) (a : Word) (v : Byte), regionOf a = .oam → s.dma.active = true → busWrite s a v = s)

/-- R28, R32 to R35, R41, R64, R70 to R72, R316, R380, R381: what a write of each I/O register and of IE leaves of the whole
machine, and that every read/write one reads back; STAT reads 1, its four enables, the match bit and the mode, and stores
the enables only; a write of LY is discarded. The joypad and audio clauses are of their default instances, and the clauses
on what 0xFF04 to 0xFF07 do are of the reference timer, the spec's default instance of the parameter `Timer`, which the
model's reset state has (log 8); any other timer can change itself and request TIMER only. -/
def Obligations.StatusRegistersReadAndWrite : Prop :=
  ∀ (s : State) (v : Byte),
    (statInv s.ppu → (busRead s 0xFF41#16).toNat = 128 + s.ppu.statEn.toNat + 4 * s.ppu.lycEq.toNat +
      (match s.ppu.mode with | .hblank => 0 | .vblank => 1 | .oamScan => 2 | .transfer => 3)) ∧
    (∀ row ∈ [(0xFF01#16, { s with sb := v }), (0xFF02#16, { s with sc := v }), (0xFF0F#16, { s with intf := v }),
        (0xFF40#16, { s with ppu := { s.ppu with lcdc := v } }),
        (0xFF41#16, { s with ppu := { s.ppu with statEn := v &&& 0x78#8 } }),
        (0xFF42#16, { s with ppu := { s.ppu with scy := v } }), (0xFF43#16, { s with ppu := { s.ppu with scx := v } }),
        (0xFF44#16, s), (0xFF45#16, { s with ppu := { s.ppu with lyc := v } }),
        (0xFF46#16, { s with dmaReg := v, dma := ⟨true, 0, v, 2⟩ }),
        (0xFF47#16, { s with ppu := { s.ppu with bgp := v } }), (0xFF48#16, { s with ppu := { s.ppu with obp0 := v } }),
        (0xFF49#16, { s with ppu := { s.ppu with obp1 := v } }), (0xFF4A#16, { s with ppu := { s.ppu with wy := v } }),
        (0xFF4B#16, { s with ppu := { s.ppu with wx := v } }), (0xFFFF#16, { s with ie := v })],
      busWrite s row.1 v = row.2) ∧
    (∀ a ∈ [0xFF01#16, 0xFF02#16, 0xFF0F#16, 0xFF40#16, 0xFF42#16, 0xFF43#16, 0xFF45#16, 0xFF46#16, 0xFF47#16, 0xFF48#16,
        0xFF49#16, 0xFF4A#16, 0xFF4B#16, 0xFFFF#16], busRead (busWrite s a v) a = v) ∧
    busRead s 0xFF44#16 = s.ppu.ly ∧
    (∀ w, s.joypad = .snapshot w → busRead s 0xFF00#16 = w ∧ busWrite s 0xFF00#16 v = s) ∧
    (s.audio = .silent → ∀ a : Word, 0xFF10 ≤ a.toNat → a.toNat ≤ 0xFF3F →
      busRead s a = 0xFF#8 ∧ busWrite s a v = s) ∧
    (∀ t, s.timer = .reference t →
      busRead s 0xFF04#16 = BitVec.ofNat 8 (t.div16.toNat / 256) ∧
      (∀ row ∈ [(0xFF04#16, { t with div16 := 0 }), (0xFF05#16, { t with tima := v }), (0xFF06#16, { t with tma := v }),
          (0xFF07#16, { t with tac := v })], busWrite s row.1 v = { s with timer := .reference row.2 }) ∧
      ∀ a ∈ [0xFF05#16, 0xFF06#16, 0xFF07#16], busRead (busWrite s a v) a = v) ∧
    (∀ a ∈ [0xFF04#16, 0xFF05#16, 0xFF06#16, 0xFF07#16], ∃ t i, busWrite s a v = { s with timer := t, intf := i } ∧
      (i = s.intf ∨ i = s.intf ||| 0x04#8))

/-! ### DMA and timer -/

/-- R383 to R385, R406: a write of any page to 0xFF46 starts a transfer of 160 bytes to OAM in 162 cycles, counting the
write's own; the unit is active until the last of them. Byte `j` is what the bus reads at the end of cycle `j + 3`, after
its four dots: the memory's own byte in RAM, in the read-only image and in high RAM, 0xFF in that cartridge's RAM window,
`ECHO_READ` and `OAM_DMA_READ` in the pages of those ranges, and whatever an I/O register or an external cartridge reads
then. No byte outside OAM changes. One tick of the unit does nothing, steps the delay down, or copies one byte. -/
def Obligations.DmaCopiesOnePage : Prop :=
  (∀ (s : State) (v : Byte),
    let start := busWrite s 0xFF46#16 v
    (∀ n, n < 162 → (advance n start).dma.active = true) ∧
    (advance 162 start).dma.active = false ∧
    (∀ j, j < 160 →
      let byte := (advance 162 start).mem.read (0xFE00 + j)
      let addr := 256 * v.toNat + j
      byte = busRead (advanceDot^[4] (advance (j + 2) start)) (BitVec.ofNat 16 addr) ∧
      (addr < 0x8000 → s.cart = .rom32k → byte = s.mem.read addr) ∧
      (0x8000 ≤ addr → addr < 0xA000 → byte = s.mem.read addr) ∧
      (0xA000 ≤ addr → addr < 0xC000 → s.cart = .rom32k → byte = 0xFF#8) ∧
      (0xC000 ≤ addr → addr < 0xE000 → byte = s.mem.read addr) ∧
      (0xE000 ≤ addr → addr < 0xFE00 → byte = s.params.echoRead) ∧
      (0xFE00 ≤ addr → addr < 0xFF00 → byte = s.params.oamDmaRead) ∧
      (0xFF80 ≤ addr → byte = s.mem.read addr)) ∧
    ∀ n a, (a < 0xFE00 ∨ 0xFEA0 ≤ a) → (advance n start).mem.read a = s.mem.read a) ∧
  (∀ s : State,
    (s.dma.active = false → dmaTick s = s) ∧
    (s.dma.active = true → 0 < s.dma.delay → dmaTick s = { s with dma := { s.dma with delay := s.dma.delay - 1 } }) ∧
    (s.dma.active = true → s.dma.delay = 0 → s.dma.nextByte < 160 →
      let addr := BitVec.ofNat 16 (256 * s.dma.page.toNat + s.dma.nextByte)
      dmaTick s = { afterRead s addr with
        mem := s.mem.write (0xFE00 + s.dma.nextByte) (busRead s addr)
        dma := { s.dma with nextByte := s.dma.nextByte + 1, active := decide (s.dma.nextByte ≠ 159) } }))

/-- R380, R381: the reference timer, the spec's default instance of the parameter `Timer`, which the model's reset state
has (log 8): with it enabled, TIMA steps by one in any run of 1024, 16, 64 or 256 dots, by TAC's low bits, and DIV in any
run of 256; the dot that overflows TIMA reloads it from TMA and requests TIMER, and no other dot requests anything. The
tick of any timer changes that timer only and requests TIMER or nothing. -/
def Obligations.TimerCountsAndOverflows : Prop :=
  (∀ t : RefTimer,
    (t.tac.getLsbD 2 = true → t.tima ≠ 0xFF#8 →
      ∀ period, (t.tac.toNat % 4, period) ∈ [(0, 1024), (1, 16), (2, 64), (3, 256)] →
        (refTimerTick^[period] t).tima = t.tima + 1) ∧
    (t.tac.getLsbD 2 = false → ∀ n, (refTimerTick^[n] t).tima = t.tima) ∧
    refTimerRead (refTimerTick^[256] t) .div = refTimerRead t .div + 1) ∧
  (∀ (s : State) (t : RefTimer), s.timer = .reference t →
    let edge := t.tac.getLsbD 2 &&
      decide ((t.div16.toNat + 1) % (match t.tac.toNat % 4 with | 0 => 1024 | 1 => 16 | 2 => 64 | _ => 256) = 0)
    let overflow := edge && decide (t.tima = 0xFF#8)
    ∃ u : RefTimer, (tickTimer s).timer = .reference u ∧ u.div16 = t.div16 + 1 ∧ u.tma = t.tma ∧ u.tac = t.tac ∧
      u.tima = (if overflow then t.tma else if edge then t.tima + 1 else t.tima) ∧
      (tickTimer s).intf = (if overflow then s.intf ||| 0x04#8 else s.intf)) ∧
  (∀ s : State, ∃ t i, tickTimer s = { s with timer := t, intf := i } ∧ (i = s.intf ∨ i = s.intf ||| 0x04#8))

/-! ### The picture pipeline -/

/-- R302 to R304, R315, R37: the object scan keeps at most ten entries of the table, all covering the line, ascending in
X. The tick that takes the dot counter of OAM-scan from 0 to 1 makes its result the line's list, and no other tick of
the picture pipeline changes that list. -/
def Obligations.ScanKeepsTenSortedSprites : Prop :=
  (∀ (m : Memory) (p : Ppu),
    (lineScan m p).length ≤ 10 ∧
    (lineScan m p).Pairwise (fun e f => e.x.toNat ≤ f.x.toNat) ∧
    (∀ e ∈ lineScan m p, (∃ i, i < 40 ∧ e = oamEntry m i) ∧ e.y.toNat ≤ p.ly.toNat + 16 ∧
      p.ly.toNat + 16 < e.y.toNat + objHeight p) ∧
    ((lineScan m p).length < 10 → ∀ i, i < 40 → (oamEntry m i).y.toNat ≤ p.ly.toNat + 16 →
      p.ly.toNat + 16 < (oamEntry m i).y.toNat + objHeight p → oamEntry m i ∈ lineScan m p)) ∧
  (∀ s : State, (tickPpu s).ppu.lineSprites =
    if s.ppu.mode = .oamScan ∧ s.ppu.dot = 0 then lineScan s.mem s.ppu else s.ppu.lineSprites)

/-- R330: at the OAM-scan to pixel-transfer transition the fetcher is made fresh, and at the phase's end its queue is
empty. -/
def Obligations.FetcherIsFreshEachTransfer : Prop :=
  (∀ (c : Params) (m : Memory) (p : Ppu), p.mode = .oamScan → (ppuTick c m p).mode = .transfer →
    let f := (ppuTick c m p).fetcher
    f.fstate = .tile ∧ f.fifo = [] ∧ f.fetchX = 0 ∧ f.lineX = 0 ∧ f.pushedX = 0 ∧ f.fifoX = 0 ∧ f.bgTile = 0x00#8 ∧
    f.bgLo = 0x00#8 ∧ f.bgHi = 0x00#8 ∧ f.bgIsWindow = false ∧ f.fetched = []) ∧
  (∀ (c : Params) (m : Memory) (p : Ppu), p.mode = .transfer → (ppuTick c m p).mode ≠ .transfer →
    (ppuTick c m p).fetcher.fifo = [])

/-- R333 to R342, R346: the fetcher's states in order, and what each does; nothing that a clause does not name changes.
TILE reads the tile number at the background's map address, or at the window's where the window is enabled, visible and
reached (its fetch column and window line in the range R335 gives them), and takes the first three of the line's sprites
whose left edge, or the column past the right one, is in the fetch window. DATA_LO and DATA_HI read the two bytes of the
tile's row, and of each fetched sprite's, from VRAM; a sprite's bytes are given for one that covers the line at the
height LCDC.OBJ_SIZE has at the fetch. For a sprite that no longer does, because OBJ_SIZE changed after the scan, R339
reduces the address into VRAM, "a case no claim should rest on" (decision D23; U13: any value), and this statement says
no more than that the sprite has a byte. IDLE is a pass-through. PUSH waits, with nothing changed, while the FIFO holds
more than 8, and otherwise appends the eight colours of the row, the background's with the first sprite over it that is
opaque and not suppressed. -/
def Obligations.FetcherStatesInOrder : Prop :=
  ∀ (c : Params) (m : Memory) (p : Ppu),
    let f := p.fetcher
    let row := if f.bgIsWindow then p.windowLine % 8 * 2 else (p.ly.toNat + p.scy.toNat) % 8 * 2
    let tileAt := if p.lcdc.getLsbD 4 then 0x8000 + 16 * f.bgTile.toNat + row
      else 0x8800 + 16 * ((f.bgTile.toNat + 128) % 256) + row
    let height := if p.lcdc.getLsbD 2 then 16 else 8
    let covers := fun e : Sprite => e.y.toNat ≤ p.ly.toNat + 16 ∧ p.ly.toNat + 16 < e.y.toNat + height
    let spriteAt := fun e : Sprite =>
      let tile := if p.lcdc.getLsbD 2 then e.tile.toNat / 2 * 2 else e.tile.toNat
      let row := p.ly.toNat + 16 - e.y.toNat
      0x8000 + 16 * tile + 2 * (if e.attr.getLsbD 6 then height - 1 - row else row)
    (f.fstate = .tile → f.fetchX ≤ 176 → p.windowLine ≤ 143 →
      let inWindow := p.lcdc.getLsbD 5 && decide (p.wx.toNat ≤ 166 ∧ p.wy.toNat < 144 ∧ p.wx.toNat ≤ f.fetchX + 7 ∧
        p.wy.toNat ≤ p.ly.toNat)
      let mapAt := (if p.lcdc.getLsbD 3 then 0x9C00 else 0x9800) + (f.fetchX + p.scx.toNat) % 256 / 8 +
        (p.ly.toNat + p.scy.toNat) % 256 / 8 * 32
      let windowAt := (if p.lcdc.getLsbD 6 then 0x9C00 else 0x9800) + (f.fetchX + 7 - p.wx.toNat) / 8 +
        p.windowLine / 8 * 32
      fetcherStep c m p = { p with fetcher := { f with
        fstate := .dataLo
        fetchX := f.fetchX + 8
        bgIsWindow := p.lcdc.getLsbD 0 && inWindow
        bgTile := if p.lcdc.getLsbD 0 then m.read (if inWindow then windowAt else mapAt) else f.bgTile
        fetched := if p.lcdc.getLsbD 1 then
            (p.lineSprites.filter fun e =>
              let x : Int := (e.x.toNat : Int) - 8 + (p.scx.toNat % 8 : Nat)
              decide ((f.fetchX : Int) ≤ x ∧ x < f.fetchX + 8 ∨
                (f.fetchX : Int) ≤ x + 8 ∧ x + 8 < f.fetchX + 8)).take 3
          else [] } }) ∧
    (f.fstate = .dataLo → ∃ bytes : List Byte, bytes.length = f.fetched.length ∧
      (∀ (k : Nat) (e : Sprite), f.fetched[k]? = some e → covers e → bytes[k]? = some (m.read (spriteAt e))) ∧
      fetcherStep c m p = { p with fetcher := { f with
        fstate := .dataHi, bgLo := m.read tileAt, sprLo := bytes } }) ∧
    (f.fstate = .dataHi → ∃ bytes : List Byte, bytes.length = f.fetched.length ∧
      (∀ (k : Nat) (e : Sprite), f.fetched[k]? = some e → covers e → bytes[k]? = some (m.read (spriteAt e + 1))) ∧
      fetcherStep c m p = { p with fetcher := { f with
        fstate := .idle, bgHi := m.read (tileAt + 1), sprHi := bytes } }) ∧
    (f.fstate = .idle → fetcherStep c m p = { p with fetcher := { f with fstate := .push } }) ∧
    (f.fstate = .push → 8 < f.fifo.length → fetcherStep c m p = p) ∧
    (f.fstate = .push → f.fifo.length ≤ 8 → fetcherStep c m p = { p with fetcher :=
      { f with fstate := .tile, fifoX := f.fifoX + 8, fifo := f.fifo ++ (List.range 8).map (shownColour c p) } })

/-- R344: PushPixel pops the oldest colour while the FIFO holds more than 8, drops it among the first `SCX mod 8` of the
line, and else writes it at `(pushed_x, LY)`. -/
def Obligations.PushPixelPopsTheOldest : Prop :=
  (∀ (p : Ppu) (c : Colour) (rest : List Colour), p.fetcher.fifo = c :: rest → 8 ≤ rest.length →
    (pushPixel p).fetcher.fifo = rest ∧ (pushPixel p).fetcher.lineX = p.fetcher.lineX + 1 ∧
    (p.scx.toNat % 8 ≤ p.fetcher.lineX →
      (pushPixel p).fetcher.pushedX = p.fetcher.pushedX + 1 ∧
      framebufferRead (pushPixel p).framebuffer (p.fetcher.pushedX + 160 * p.ly.toNat) = c ∧
      ∀ i, i ≠ p.fetcher.pushedX + 160 * p.ly.toNat →
        framebufferRead (pushPixel p).framebuffer i = framebufferRead p.framebuffer i) ∧
    (p.fetcher.lineX < p.scx.toNat % 8 →
      (pushPixel p).fetcher.pushedX = p.fetcher.pushedX ∧ (pushPixel p).framebuffer = p.framebuffer)) ∧
  (∀ p : Ppu, p.fetcher.fifo.length ≤ 8 → pushPixel p = p)

/-- R300, R302, R306, R308, R309, R311 to R313, R315, R317, R318: the whole of a tick of the picture pipeline, mode by
mode; nothing that a clause does not name changes. OAM-scan scans in its first tick and enters pixel-transfer, with a
fresh fetcher, in its 80th, and requests nothing. A tick of pixel-transfer steps the fetcher if it takes the counter to
an even dot, and then pushes a pixel; that of the 160th pixel enters H-blank with the FIFO empty, with STAT if its
enable is set. The other dots of H-blank and V-blank only count. The last dot of a visible line steps the window-line
counter if the window was shown on the line just finished; the last dot of any line steps LY, to 0 after 153, sets the
match bit by LYC and requests STAT on a match if enabled; after line 143 it enters V-blank, with VBLANK always and STAT
if enabled, the frame counter and the frame-ready signal; after line 153 it starts line 0 of the next frame and the
window-line counter. Entering OAM-scan requests STAT, if enabled, where the parameter `STAT_OAM_IRQ` says so; the
statement holds for either value, and `State.reset` has the spec's default, false (log 5). -/
def Obligations.LineEndStepsLyAndRequests : Prop :=
  ∀ s : State,
    let p := s.ppu
    let next := { p with dot := p.dot + 1 }
    let oam := s.params.statOamIrq && p.statEn.getLsbD 5
    let shown := p.lcdc.getLsbD 5 && decide (p.wx.toNat ≤ 166 ∧ p.wy.toNat < 144 ∧ p.wy.toNat ≤ p.ly.toNat ∧
      p.ly.toNat < p.wy.toNat + 144)
    (p.mode = .oamScan → tickPpu s = { s with ppu := { p with
      dot := p.dot + 1
      lineSprites := if p.dot = 0 then lineScan s.mem p else p.lineSprites
      mode := if 79 ≤ p.dot then .transfer else .oamScan
      fetcher := if 79 ≤ p.dot then freshFetcher else p.fetcher } }) ∧
    (p.mode = .transfer →
      let q := pushPixel (if (p.dot + 1) % 2 = 0 then fetcherStep s.params s.mem next else next)
      tickPpu s = if 160 ≤ q.fetcher.pushedX then { s with
          ppu := { q with mode := .hblank, fetcher := { q.fetcher with fifo := [] } }
          intf := if p.statEn.getLsbD 3 then s.intf ||| 0x02#8 else s.intf }
        else { s with ppu := q }) ∧
    ((p.mode = .hblank ∨ p.mode = .vblank) → p.dot < 455 → tickPpu s = { s with ppu := next }) ∧
    (p.mode = .hblank → 455 ≤ p.dot → p.ly.toNat ≤ 143 →
      let line := p.ly.toNat + 1
      let match' := decide (line = p.lyc.toNat)
      tickPpu s = { s with
        ppu := { p with
          ly := BitVec.ofNat 8 line
          dot := 0
          lycEq := match'
          windowLine := if shown then p.windowLine + 1 else p.windowLine
          mode := if line = 144 then .vblank else .oamScan
          frame := if line = 144 then p.frame + 1 else p.frame
          frameReady := decide (line = 144) || p.frameReady }
        intf := s.intf ||| (if line = 144 then 0x01#8 else 0x00#8) |||
          (if (match' && p.statEn.getLsbD 6) || (if line = 144 then p.statEn.getLsbD 4 else oam) then 0x02#8
           else 0x00#8) }) ∧
    (p.mode = .vblank → 455 ≤ p.dot →
      let line := if 153 ≤ p.ly.toNat then 0 else p.ly.toNat + 1
      let match' := decide (line = p.lyc.toNat)
      tickPpu s = { s with
        ppu := { p with
          ly := BitVec.ofNat 8 line
          dot := 0
          lycEq := match'
          windowLine := if line = 0 then 0 else p.windowLine
          mode := if line = 0 then .oamScan else .vblank }
        intf := s.intf ||| (if (match' && p.statEn.getLsbD 6) || (decide (line = 0) && oam) then 0x02#8
          else 0x00#8) })

/-- R320 and R347, which the spec marks as its own inference: with the scroll held, pixel-transfer ends at dot 297, or
299 plus `SCX mod 8` when that is not 0, whatever sprites, window and memory hold. -/
def Obligations.TransferLengthByScroll : Prop :=
  ∀ (c : Params) (m : Memory) (p : Ppu), p.mode = .oamScan → p.dot = 0 →
    let h := if p.scx.toNat % 8 = 0 then 297 else 299 + p.scx.toNat % 8
    ((ppuTick c m)^[79] p).mode = .oamScan ∧ ((ppuTick c m)^[80] p).mode = .transfer ∧
    ((ppuTick c m)^[h - 1] p).mode = .transfer ∧ ((ppuTick c m)^[h] p).mode = .hblank ∧ ((ppuTick c m)^[h] p).dot = h

/-- R319, whose reach beyond a blank map the spec marks as its own inference: from the start of line 0, one frame of
70224 dots comes back to the start of line 0, the frame counter has grown by one and the frame is ready; the V-blank
line is reached after 65664 dots. -/
def Obligations.OneFrameIsSeventyThousandDots : Prop :=
  ∀ (c : Params) (m : Memory) (p : Ppu), p.mode = .oamScan → p.dot = 0 → p.ly = 0x00#8 →
    let q := (ppuTick c m)^[70224] p
    q.mode = .oamScan ∧ q.dot = 0 ∧ q.ly = 0x00#8 ∧ q.windowLine = 0 ∧ q.frame = p.frame + 1 ∧
    q.frameReady = true ∧ ((ppuTick c m)^[65663] p).mode = .hblank ∧ ((ppuTick c m)^[65664] p).mode = .vblank

/-! ### Whole-machine statements -/

/-- R6, R44: the reset values the spec's table gives, by its decision D3, which are the default of the parameter `RESET`,
and the defaults of the other parameters; of `STOP_MODE`, which `State.reset` has at `nop` (log 3), nothing is said. -/
def Obligations.ResetValues : Prop :=
  let s := State.reset
  [s.a, s.f, s.b, s.c, s.d, s.e, s.h, s.l] = [0x01#8, 0xB0#8, 0x00#8, 0x13#8, 0x00#8, 0xD8#8, 0x01#8, 0x4D#8] ∧
  s.sp = 0xFFFE#16 ∧ s.pc = 0x0100#16 ∧
  [s.halted, s.fatal, s.stopRequested, s.ime, s.imePending] = [false, false, false, false, false] ∧
  [s.ie, s.intf, s.dmaReg, s.sb, s.sc] = [0x00#8, 0x00#8, 0xFF#8, 0x00#8, 0x00#8] ∧
  [s.ppu.lcdc, s.ppu.scy, s.ppu.scx, s.ppu.ly, s.ppu.lyc, s.ppu.wy, s.ppu.wx, s.ppu.bgp, s.ppu.obp0, s.ppu.obp1] =
    [0x91#8, 0x00#8, 0x00#8, 0x00#8, 0x00#8, 0x00#8, 0x00#8, 0xFC#8, 0xFF#8, 0xFF#8] ∧
  busRead s 0xFF41#16 = 0x82#8 ∧ s.ppu.mode = .oamScan ∧
  [s.ppu.dot, s.ppu.frame, s.ppu.windowLine, s.ticks] = [0, 0, 0, 0] ∧ s.ppu.frameReady = false ∧
  s.ppu.lineSprites = [] ∧ s.dma.active = false ∧ s.timer = .reference ⟨0xABCC#16, 0x00#8, 0x00#8, 0x00#8⟩ ∧
  [s.params.echoRead, s.params.prohibitedRead, s.params.ioUnmappedRead, s.params.oamDmaRead] =
    [0x00#8, 0x00#8, 0xFF#8, 0xFF#8] ∧
  [s.params.intLeadTicks, s.params.intTailTicks] = [2, 1] ∧ s.params.statOamIrq = false ∧
  [s.params.shade0, s.params.shade1, s.params.shade2, s.params.shade3] =
    [0xFFFFFFFF#32, 0xFFAAAAAA#32, 0xFF555555#32, 0xFF000000#32] ∧
  s.audio = .silent ∧ s.joypad = .snapshot 0xFF#8 ∧ s.launch = ResetValues.default

/-- Every invariant holds at reset (R44, R321). -/
def Obligations.ResetMeetsTheInvariant : Prop := machineInv State.reset

/-- R23, R32, R39, R43, R321, R343: every step keeps every invariant: F's low nibble zero, memory canonical, the DMA and
STAT ranges, the picture pipeline's list; and no step changes the parameters of the machine. -/
def Obligations.StepKeepsTheInvariant : Prop :=
  (∀ s t : State, machineInv s → step s = .next t → machineInv t) ∧
  (∀ s t : State, step s = .next t → sameBuild s t)

/-- R390, R400, R401: the host's moves keep every invariant too, a reset if the record `RESET` meets it, and the
parameters; no move but a reset changes a register of the CPU, its run state or its interrupt-enable bits, the host's
own stop flag apart. A reset puts every value of `RESET` in place and ends `fatal`; the collaborators' own business it
leaves, by the model's choice (log 18). A load supplies the cartridge and puts its bytes in memory, and does nothing
else. `Request(3)` and `Request(4)` set their bit of IF, a new joypad snapshot is what 0xFF00 then reads in the default
joypad, taking a frame reads the 160 by 144 pixels and ends the frame-ready signal, stop sets the stop flag, a debug
write is a bus write, a debug read changes nothing. -/
def Obligations.HostMovesKeepTheInvariant : Prop :=
  (∀ (s : State) (m : HostMove), machineInv s → launchInv s.launch → machineInv (hostMove s m)) ∧
  (∀ (s : State) (m : HostMove), sameBuild s (hostMove s m)) ∧
  (∀ (s : State) (m : HostMove), m ≠ .reset →
    sameRegisters s (hostMove s m) ∧ (hostMove s m).sp = s.sp ∧ (hostMove s m).pc = s.pc ∧
    (hostMove s m).halted = s.halted ∧ (hostMove s m).fatal = s.fatal ∧ (hostMove s m).ime = s.ime ∧
    (hostMove s m).imePending = s.imePending ∧
    (hostMove s m).stopRequested = (s.stopRequested || decide (m = .stop))) ∧
  (∀ s : State,
    let t := hostMove s .reset
    let r := s.launch
    [t.a, t.f, t.b, t.c, t.d, t.e, t.h, t.l] = [r.a, r.f, r.b, r.c, r.d, r.e, r.h, r.l] ∧ t.sp = r.sp ∧ t.pc = r.pc ∧
    t.fatal = false ∧ t.halted = r.halted ∧ t.stopRequested = r.stopRequested ∧ t.ime = r.ime ∧
    t.imePending = r.imePending ∧ t.ie = r.ie ∧ t.intf = r.intf ∧ t.ppu = r.ppu ∧ t.dmaReg = r.dmaReg ∧ t.dma = r.dma ∧
    t.sb = r.sb ∧ t.sc = r.sc ∧ t.ticks = r.ticks ∧ (∀ u, s.timer = .reference u → t.timer = .reference r.timer) ∧
    (∀ own, s.timer = .external own → t.timer = s.timer) ∧ t.cart = s.cart ∧ t.joypad = s.joypad ∧ t.audio = s.audio ∧
    ∀ a, a < 0x8000 → t.mem.read a = s.mem.read a) ∧
  (∀ (s : State) (cart : Cart) (a : Word) (bytes : List Byte), a.toNat + bytes.length ≤ 65536 →
    ∃ m, hostMove s (.load cart a bytes) = { s with cart := cart, mem := m } ∧
      ∀ i, m.read i = if a.toNat ≤ i then bytes.getD (i - a.toNat) (s.mem.read i) else s.mem.read i) ∧
  (∀ (s : State) (v : Byte),
    hostMove s .requestSerial = { s with intf := s.intf ||| 0x08#8 } ∧
    hostMove s .requestJoypad = { s with intf := s.intf ||| 0x10#8 } ∧
    (∃ j, hostMove s (.setJoypad v) = { s with joypad := j } ∧
      ∀ w, s.joypad = .snapshot w → j = .snapshot v ∧ busRead (hostMove s (.setJoypad v)) 0xFF00#16 = v) ∧
    hostMove s .takeFrame = { s with ppu := { s.ppu with frameReady := false } } ∧ (frameOf s).length = 160 * 144 ∧
    (∀ x y, x < 160 → y < 144 → (frameOf s)[x + 160 * y]? = some (framebufferRead s.ppu.framebuffer (x + 160 * y))) ∧
    hostMove s .stop = { s with stopRequested := true }) ∧
  (∀ (s : State) (a : Word) (v : Byte), hostMove s (.debugWrite a v) = busWrite s a v ∧ hostMove s (.inspect a) = s)

/-- R107 to R109, R116: decoding the encoding of a well-formed instruction gives it back, whatever bytes follow. PREFIX CB
is the prefix byte alone: with a byte after it, the two are a second-table instruction (R113). -/
def Obligations.DecodeInvertsEncode : Prop :=
  (∀ (i : Instr) (rest : List Byte), i.wellFormed = true → i ≠ .prefixCb →
    decode (encode i ++ rest) = .ok (i, rest)) ∧
  decode (encode .prefixCb) = .ok (.prefixCb, [])

/-- R100, R101, R111, R116, R278: the decoder is total on three bytes, answers well-formed instructions, ILLEGAL for the 11
empty opcodes and for no other first byte. -/
def Obligations.DecodeIsTotalAndWellFormed : Prop :=
  (∀ b0 b1 b2 : Byte, ∃ i rest, decode [b0, b1, b2] = .ok (i, rest) ∧ i.wellFormed = true ∧
    (i = .illegal b0 ↔ b0 ∈ illegalOpcodes) ∧ ∀ op, i = .illegal op → op = b0) ∧
  decode [] = .error .truncated

/-- R107 to R109: a few instructions' bytes written out from the encodings. -/
def Obligations.DecodeKnownWords : Prop :=
  decode [0x3E, 0x05] = .ok (.ldAN8 0x05, []) ∧ decode [0xC3, 0x00, 0x01] = .ok (.jpN16 0x0100, []) ∧
  decode [0x09] = .ok (.addHlBc, []) ∧ decode [0x76] = .ok (.halt, []) ∧ decode [0x77] = .ok (.ldAtHlA, []) ∧
  decode [0x9C] = .ok (.sbcAH, []) ∧ decode [0xF5] = .ok (.pushAf, []) ∧ decode [0x38, 0xFE] = .ok (.jrCE8 0xFE, []) ∧
  decode [0xEF] = .ok (.rst28, []) ∧ decode [0x08, 0x34, 0x12] = .ok (.ldAtN16Sp 0x1234, []) ∧
  decode [0xCB, 0x37] = .ok (.swapA, []) ∧ decode [0xCB, 0xCB] = .ok (.set1E, []) ∧
  decode [0xDD] = .ok (.illegal 0xDD, [])
end

