-- ==== Sys2Proof/Laws/Memory.lean ====
section
/-! SUPPORT. Memory and the framebuffer: a read after a write, and that every write keeps the canonical form. -/

namespace Sys2Proof.Machine

variable {β : Type}

theorem sparseErase_absent (m : List (Nat × β)) (a : Nat) : ∀ c ∈ sparseErase m a, c.1 ≠ a := by
  induction m with
  | nil => simp [sparseErase]
  | cons c m ih =>
    obtain ⟨k, v⟩ := c
    simp only [sparseErase]
    split
    · exact ih
    · rintro c (_ | ⟨_, hc⟩)
      · assumption
      · exact ih c hc

theorem sparseErase_subset (m : List (Nat × β)) (a : Nat) : ∀ c ∈ sparseErase m a, c ∈ m := by
  induction m with
  | nil => simp [sparseErase]
  | cons c m ih =>
    obtain ⟨k, v⟩ := c
    simp only [sparseErase]
    split
    · exact fun c hc => List.mem_cons_of_mem _ (ih c hc)
    · rintro c (_ | ⟨_, hc⟩)
      · exact List.mem_cons_self
      · exact List.mem_cons_of_mem _ (ih c hc)

theorem sparseInsert_mem (m : List (Nat × β)) (a : Nat) (v : β) (c : Nat × β) (h : c ∈ sparseInsert m a v) :
    c = (a, v) ∨ c ∈ m := by
  induction m with
  | nil => simpa [sparseInsert] using h
  | cons e m ih =>
    obtain ⟨k, w⟩ := e
    simp only [sparseInsert] at h
    split at h
    · simpa using h
    · rcases List.mem_cons.1 h with rfl | h
      · simp
      · rcases ih h with rfl | h <;> simp [*]

theorem sparseRead_erase_self (d : β) (m : List (Nat × β)) (a : Nat) : sparseRead d (sparseErase m a) a = d := by
  induction m with
  | nil => rfl
  | cons c m ih =>
    obtain ⟨k, v⟩ := c
    simp only [sparseErase]
    split
    · exact ih
    · simp only [sparseRead, if_neg ‹_›, ih]

theorem sparseRead_erase_ne (d : β) (m : List (Nat × β)) {a b : Nat} (h : b ≠ a) :
    sparseRead d (sparseErase m a) b = sparseRead d m b := by
  induction m with
  | nil => rfl
  | cons c m ih =>
    obtain ⟨k, v⟩ := c
    simp only [sparseErase]
    split
    · rw [ih, sparseRead, if_neg (by omega)]
    · simp only [sparseRead, ih]

theorem sparseRead_insert_self (d : β) (m : List (Nat × β)) (a : Nat) (v : β) (h : ∀ c ∈ m, c.1 ≠ a) :
    sparseRead d (sparseInsert m a v) a = v := by
  induction m with
  | nil => simp [sparseInsert, sparseRead]
  | cons c m ih =>
    obtain ⟨k, w⟩ := c
    simp only [sparseInsert]
    split
    · simp [sparseRead]
    · rw [sparseRead, if_neg (h _ List.mem_cons_self), ih fun c hc => h c (List.mem_cons_of_mem _ hc)]

theorem sparseRead_insert_ne (d : β) (m : List (Nat × β)) {a b : Nat} (v : β) (h : b ≠ a) :
    sparseRead d (sparseInsert m a v) b = sparseRead d m b := by
  induction m with
  | nil => simp [sparseInsert, sparseRead, Ne.symm h]
  | cons c m ih =>
    obtain ⟨k, w⟩ := c
    simp only [sparseInsert]
    split
    · rw [sparseRead, if_neg (Ne.symm h)]
    · simp only [sparseRead, ih]

variable [DecidableEq β]

theorem sparseRead_write_self (d : β) (m : List (Nat × β)) (a : Nat) (v : β) :
    sparseRead d (sparseWrite d m a v) a = v := by
  unfold sparseWrite
  split
  · rw [sparseRead_erase_self, ‹v = d›]
  · exact sparseRead_insert_self d _ a v (sparseErase_absent m a)

theorem sparseRead_write_ne (d : β) (m : List (Nat × β)) {a b : Nat} (v : β) (h : b ≠ a) :
    sparseRead d (sparseWrite d m a v) b = sparseRead d m b := by
  unfold sparseWrite
  split
  · exact sparseRead_erase_ne d m h
  · rw [sparseRead_insert_ne d _ v h, sparseRead_erase_ne d m h]

theorem sparseWf_cons (d : β) (n k : Nat) (v : β) (m : List (Nat × β)) :
    sparseWf d n ((k, v) :: m) = true ↔ v ≠ d ∧ k < n ∧ (∀ c ∈ m, k < c.1) ∧ sparseWf d n m = true := by
  simp [sparseWf, and_assoc]

theorem sparseWf_erase (d : β) (n : Nat) (m : List (Nat × β)) (a : Nat) (h : sparseWf d n m = true) :
    sparseWf d n (sparseErase m a) = true := by
  induction m with
  | nil => rfl
  | cons c m ih =>
    obtain ⟨k, v⟩ := c
    rw [sparseWf_cons] at h
    obtain ⟨hv, hk, hlt, hm⟩ := h
    simp only [sparseErase]
    split
    · exact ih hm
    · exact (sparseWf_cons ..).2 ⟨hv, hk, fun c hc => hlt c (sparseErase_subset m a c hc), ih hm⟩

theorem sparseWf_insert (d : β) (n : Nat) (m : List (Nat × β)) {a : Nat} {v : β} (hv : v ≠ d) (ha : a < n)
    (hne : ∀ c ∈ m, c.1 ≠ a) (h : sparseWf d n m = true) : sparseWf d n (sparseInsert m a v) = true := by
  induction m with
  | nil => simp [sparseInsert, sparseWf, hv, ha]
  | cons c m ih =>
    obtain ⟨k, w⟩ := c
    have h' := h
    rw [sparseWf_cons] at h
    obtain ⟨hw, hk, hlt, hm⟩ := h
    simp only [sparseInsert]
    split
    · refine (sparseWf_cons ..).2 ⟨hv, ha, ?_, h'⟩
      intro c hc
      rcases List.mem_cons.1 hc with rfl | hc
      · assumption
      · have := hlt c hc; omega
    · refine (sparseWf_cons ..).2 ⟨hw, hk, ?_, ih (fun c hc => hne c (List.mem_cons_of_mem _ hc)) hm⟩
      intro c hc
      rcases sparseInsert_mem m a v c hc with rfl | hc
      · have := hne _ (List.mem_cons_self (a := (k, w))); simp only at this; omega
      · exact hlt c hc

theorem sparseWf_write (d : β) (n : Nat) (m : List (Nat × β)) {a : Nat} (v : β) (ha : a < n)
    (h : sparseWf d n m = true) : sparseWf d n (sparseWrite d m a v) = true := by
  unfold sparseWrite
  split
  · exact sparseWf_erase d n m a h
  · exact sparseWf_insert d n _ ‹_› ha (sparseErase_absent m a) (sparseWf_erase d n m a h)

theorem sparseWf_filter (d : β) (n : Nat) (q : Nat × β → Bool) (m : List (Nat × β)) (h : sparseWf d n m = true) :
    sparseWf d n (m.filter q) = true := by
  induction m with
  | nil => rfl
  | cons c m ih =>
    obtain ⟨k, v⟩ := c
    rw [sparseWf_cons] at h
    obtain ⟨h1, h2, h3, h4⟩ := h
    rw [List.filter_cons]
    split
    · rw [sparseWf_cons]
      exact ⟨h1, h2, fun c hc => h3 c (List.mem_of_mem_filter hc), ih h4⟩
    · exact ih h4

/-- A byte written reads back (R67). -/
@[simp] theorem Memory.read_write_self (m : Memory) (a : Nat) (v : Byte) : (m.write a v).read a = v :=
  sparseRead_write_self ..

/-- A write leaves every other address alone (R67). -/
theorem Memory.read_write_ne (m : Memory) {a b : Nat} (v : Byte) (h : b ≠ a) : (m.write a v).read b = m.read b :=
  sparseRead_write_ne _ _ v h

/-- A write at a bus address keeps the canonical form. -/
theorem Memory.wf_write (m : Memory) {a : Nat} (v : Byte) (ha : a < 65536) (h : m.wf = true) :
    (m.write a v).wf = true := sparseWf_write _ _ m v ha h

/-- A pixel written reads back (R344). -/
@[simp] theorem framebufferRead_write_self (fb : List (Nat × Colour)) (i : Nat) (c : Colour) :
    framebufferRead (framebufferWrite fb i c) i = c := sparseRead_write_self ..

/-- A pixel written leaves every other pixel alone. -/
theorem framebufferRead_write_ne (fb : List (Nat × Colour)) {i j : Nat} (c : Colour) (h : j ≠ i) :
    framebufferRead (framebufferWrite fb i c) j = framebufferRead fb j := sparseRead_write_ne _ _ c h

/-- A pixel written on the screen keeps the canonical form. -/
theorem framebufferWf_write (fb : List (Nat × Colour)) {i : Nat} (c : Colour) (hi : i < 23040)
    (h : framebufferWf fb = true) : framebufferWf (framebufferWrite fb i c) = true := sparseWf_write _ _ fb c hi h

end Sys2Proof.Machine
end

