-- ==== Sys2Proof/Laws/State.lean ====
section
/-! SUPPORT. One lemma for each field and each named update of State: what the update writes, and what it leaves. Later
proofs cite these and unfold no record update. -/

namespace Sys2Proof.Machine

/-! ### `writeF` -/

@[simp] theorem writeF_a (s : State) (v : Byte) : (writeF s v).a = s.a := rfl
@[simp] theorem writeF_f (s : State) (v : Byte) : (writeF s v).f = v &&& 0xF0#8 := rfl
@[simp] theorem writeF_b (s : State) (v : Byte) : (writeF s v).b = s.b := rfl
@[simp] theorem writeF_c (s : State) (v : Byte) : (writeF s v).c = s.c := rfl
@[simp] theorem writeF_d (s : State) (v : Byte) : (writeF s v).d = s.d := rfl
@[simp] theorem writeF_e (s : State) (v : Byte) : (writeF s v).e = s.e := rfl
@[simp] theorem writeF_h (s : State) (v : Byte) : (writeF s v).h = s.h := rfl
@[simp] theorem writeF_l (s : State) (v : Byte) : (writeF s v).l = s.l := rfl
@[simp] theorem writeF_sp (s : State) (v : Byte) : (writeF s v).sp = s.sp := rfl
@[simp] theorem writeF_pc (s : State) (v : Byte) : (writeF s v).pc = s.pc := rfl
@[simp] theorem writeF_halted (s : State) (v : Byte) : (writeF s v).halted = s.halted := rfl
@[simp] theorem writeF_fatal (s : State) (v : Byte) : (writeF s v).fatal = s.fatal := rfl
@[simp] theorem writeF_fatalInfo (s : State) (v : Byte) : (writeF s v).fatalInfo = s.fatalInfo := rfl
@[simp] theorem writeF_stopRequested (s : State) (v : Byte) : (writeF s v).stopRequested = s.stopRequested := rfl
@[simp] theorem writeF_ime (s : State) (v : Byte) : (writeF s v).ime = s.ime := rfl
@[simp] theorem writeF_imePending (s : State) (v : Byte) : (writeF s v).imePending = s.imePending := rfl
@[simp] theorem writeF_ie (s : State) (v : Byte) : (writeF s v).ie = s.ie := rfl
@[simp] theorem writeF_intf (s : State) (v : Byte) : (writeF s v).intf = s.intf := rfl
@[simp] theorem writeF_mem (s : State) (v : Byte) : (writeF s v).mem = s.mem := rfl
@[simp] theorem writeF_ppu (s : State) (v : Byte) : (writeF s v).ppu = s.ppu := rfl
@[simp] theorem writeF_dmaReg (s : State) (v : Byte) : (writeF s v).dmaReg = s.dmaReg := rfl
@[simp] theorem writeF_dma (s : State) (v : Byte) : (writeF s v).dma = s.dma := rfl
@[simp] theorem writeF_timer (s : State) (v : Byte) : (writeF s v).timer = s.timer := rfl
@[simp] theorem writeF_sb (s : State) (v : Byte) : (writeF s v).sb = s.sb := rfl
@[simp] theorem writeF_sc (s : State) (v : Byte) : (writeF s v).sc = s.sc := rfl
@[simp] theorem writeF_ticks (s : State) (v : Byte) : (writeF s v).ticks = s.ticks := rfl
@[simp] theorem writeF_cart (s : State) (v : Byte) : (writeF s v).cart = s.cart := rfl
@[simp] theorem writeF_joypad (s : State) (v : Byte) : (writeF s v).joypad = s.joypad := rfl
@[simp] theorem writeF_audio (s : State) (v : Byte) : (writeF s v).audio = s.audio := rfl
@[simp] theorem writeF_params (s : State) (v : Byte) : (writeF s v).params = s.params := rfl
@[simp] theorem writeF_launch (s : State) (v : Byte) : (writeF s v).launch = s.launch := rfl

/-! ### `setFlags` -/

@[simp] theorem setFlags_a (s : State) (z n h c : Option Bool) : (setFlags s z n h c).a = s.a := rfl
@[simp] theorem setFlags_f (s : State) (z n h c : Option Bool) : (setFlags s z n h c).f = packFlags (z.getD (flagZ s)) (n.getD (flagN s)) (h.getD (flagH s)) (c.getD (flagC s)) &&& 0xF0#8 := rfl
@[simp] theorem setFlags_b (s : State) (z n h c : Option Bool) : (setFlags s z n h c).b = s.b := rfl
@[simp] theorem setFlags_c (s : State) (z n h c : Option Bool) : (setFlags s z n h c).c = s.c := rfl
@[simp] theorem setFlags_d (s : State) (z n h c : Option Bool) : (setFlags s z n h c).d = s.d := rfl
@[simp] theorem setFlags_e (s : State) (z n h c : Option Bool) : (setFlags s z n h c).e = s.e := rfl
@[simp] theorem setFlags_h (s : State) (z n h c : Option Bool) : (setFlags s z n h c).h = s.h := rfl
@[simp] theorem setFlags_l (s : State) (z n h c : Option Bool) : (setFlags s z n h c).l = s.l := rfl
@[simp] theorem setFlags_sp (s : State) (z n h c : Option Bool) : (setFlags s z n h c).sp = s.sp := rfl
@[simp] theorem setFlags_pc (s : State) (z n h c : Option Bool) : (setFlags s z n h c).pc = s.pc := rfl
@[simp] theorem setFlags_halted (s : State) (z n h c : Option Bool) : (setFlags s z n h c).halted = s.halted := rfl
@[simp] theorem setFlags_fatal (s : State) (z n h c : Option Bool) : (setFlags s z n h c).fatal = s.fatal := rfl
@[simp] theorem setFlags_fatalInfo (s : State) (z n h c : Option Bool) : (setFlags s z n h c).fatalInfo = s.fatalInfo := rfl
@[simp] theorem setFlags_stopRequested (s : State) (z n h c : Option Bool) : (setFlags s z n h c).stopRequested = s.stopRequested := rfl
@[simp] theorem setFlags_ime (s : State) (z n h c : Option Bool) : (setFlags s z n h c).ime = s.ime := rfl
@[simp] theorem setFlags_imePending (s : State) (z n h c : Option Bool) : (setFlags s z n h c).imePending = s.imePending := rfl
@[simp] theorem setFlags_ie (s : State) (z n h c : Option Bool) : (setFlags s z n h c).ie = s.ie := rfl
@[simp] theorem setFlags_intf (s : State) (z n h c : Option Bool) : (setFlags s z n h c).intf = s.intf := rfl
@[simp] theorem setFlags_mem (s : State) (z n h c : Option Bool) : (setFlags s z n h c).mem = s.mem := rfl
@[simp] theorem setFlags_ppu (s : State) (z n h c : Option Bool) : (setFlags s z n h c).ppu = s.ppu := rfl
@[simp] theorem setFlags_dmaReg (s : State) (z n h c : Option Bool) : (setFlags s z n h c).dmaReg = s.dmaReg := rfl
@[simp] theorem setFlags_dma (s : State) (z n h c : Option Bool) : (setFlags s z n h c).dma = s.dma := rfl
@[simp] theorem setFlags_timer (s : State) (z n h c : Option Bool) : (setFlags s z n h c).timer = s.timer := rfl
@[simp] theorem setFlags_sb (s : State) (z n h c : Option Bool) : (setFlags s z n h c).sb = s.sb := rfl
@[simp] theorem setFlags_sc (s : State) (z n h c : Option Bool) : (setFlags s z n h c).sc = s.sc := rfl
@[simp] theorem setFlags_ticks (s : State) (z n h c : Option Bool) : (setFlags s z n h c).ticks = s.ticks := rfl
@[simp] theorem setFlags_cart (s : State) (z n h c : Option Bool) : (setFlags s z n h c).cart = s.cart := rfl
@[simp] theorem setFlags_joypad (s : State) (z n h c : Option Bool) : (setFlags s z n h c).joypad = s.joypad := rfl
@[simp] theorem setFlags_audio (s : State) (z n h c : Option Bool) : (setFlags s z n h c).audio = s.audio := rfl
@[simp] theorem setFlags_params (s : State) (z n h c : Option Bool) : (setFlags s z n h c).params = s.params := rfl
@[simp] theorem setFlags_launch (s : State) (z n h c : Option Bool) : (setFlags s z n h c).launch = s.launch := rfl

/-! ### `setBc` -/

@[simp] theorem setBc_a (s : State) (v : Word) : (setBc s v).a = s.a := rfl
@[simp] theorem setBc_f (s : State) (v : Word) : (setBc s v).f = s.f := rfl
@[simp] theorem setBc_b (s : State) (v : Word) : (setBc s v).b = hiByte v := rfl
@[simp] theorem setBc_c (s : State) (v : Word) : (setBc s v).c = loByte v := rfl
@[simp] theorem setBc_d (s : State) (v : Word) : (setBc s v).d = s.d := rfl
@[simp] theorem setBc_e (s : State) (v : Word) : (setBc s v).e = s.e := rfl
@[simp] theorem setBc_h (s : State) (v : Word) : (setBc s v).h = s.h := rfl
@[simp] theorem setBc_l (s : State) (v : Word) : (setBc s v).l = s.l := rfl
@[simp] theorem setBc_sp (s : State) (v : Word) : (setBc s v).sp = s.sp := rfl
@[simp] theorem setBc_pc (s : State) (v : Word) : (setBc s v).pc = s.pc := rfl
@[simp] theorem setBc_halted (s : State) (v : Word) : (setBc s v).halted = s.halted := rfl
@[simp] theorem setBc_fatal (s : State) (v : Word) : (setBc s v).fatal = s.fatal := rfl
@[simp] theorem setBc_fatalInfo (s : State) (v : Word) : (setBc s v).fatalInfo = s.fatalInfo := rfl
@[simp] theorem setBc_stopRequested (s : State) (v : Word) : (setBc s v).stopRequested = s.stopRequested := rfl
@[simp] theorem setBc_ime (s : State) (v : Word) : (setBc s v).ime = s.ime := rfl
@[simp] theorem setBc_imePending (s : State) (v : Word) : (setBc s v).imePending = s.imePending := rfl
@[simp] theorem setBc_ie (s : State) (v : Word) : (setBc s v).ie = s.ie := rfl
@[simp] theorem setBc_intf (s : State) (v : Word) : (setBc s v).intf = s.intf := rfl
@[simp] theorem setBc_mem (s : State) (v : Word) : (setBc s v).mem = s.mem := rfl
@[simp] theorem setBc_ppu (s : State) (v : Word) : (setBc s v).ppu = s.ppu := rfl
@[simp] theorem setBc_dmaReg (s : State) (v : Word) : (setBc s v).dmaReg = s.dmaReg := rfl
@[simp] theorem setBc_dma (s : State) (v : Word) : (setBc s v).dma = s.dma := rfl
@[simp] theorem setBc_timer (s : State) (v : Word) : (setBc s v).timer = s.timer := rfl
@[simp] theorem setBc_sb (s : State) (v : Word) : (setBc s v).sb = s.sb := rfl
@[simp] theorem setBc_sc (s : State) (v : Word) : (setBc s v).sc = s.sc := rfl
@[simp] theorem setBc_ticks (s : State) (v : Word) : (setBc s v).ticks = s.ticks := rfl
@[simp] theorem setBc_cart (s : State) (v : Word) : (setBc s v).cart = s.cart := rfl
@[simp] theorem setBc_joypad (s : State) (v : Word) : (setBc s v).joypad = s.joypad := rfl
@[simp] theorem setBc_audio (s : State) (v : Word) : (setBc s v).audio = s.audio := rfl
@[simp] theorem setBc_params (s : State) (v : Word) : (setBc s v).params = s.params := rfl
@[simp] theorem setBc_launch (s : State) (v : Word) : (setBc s v).launch = s.launch := rfl

/-! ### `setDe` -/

@[simp] theorem setDe_a (s : State) (v : Word) : (setDe s v).a = s.a := rfl
@[simp] theorem setDe_f (s : State) (v : Word) : (setDe s v).f = s.f := rfl
@[simp] theorem setDe_b (s : State) (v : Word) : (setDe s v).b = s.b := rfl
@[simp] theorem setDe_c (s : State) (v : Word) : (setDe s v).c = s.c := rfl
@[simp] theorem setDe_d (s : State) (v : Word) : (setDe s v).d = hiByte v := rfl
@[simp] theorem setDe_e (s : State) (v : Word) : (setDe s v).e = loByte v := rfl
@[simp] theorem setDe_h (s : State) (v : Word) : (setDe s v).h = s.h := rfl
@[simp] theorem setDe_l (s : State) (v : Word) : (setDe s v).l = s.l := rfl
@[simp] theorem setDe_sp (s : State) (v : Word) : (setDe s v).sp = s.sp := rfl
@[simp] theorem setDe_pc (s : State) (v : Word) : (setDe s v).pc = s.pc := rfl
@[simp] theorem setDe_halted (s : State) (v : Word) : (setDe s v).halted = s.halted := rfl
@[simp] theorem setDe_fatal (s : State) (v : Word) : (setDe s v).fatal = s.fatal := rfl
@[simp] theorem setDe_fatalInfo (s : State) (v : Word) : (setDe s v).fatalInfo = s.fatalInfo := rfl
@[simp] theorem setDe_stopRequested (s : State) (v : Word) : (setDe s v).stopRequested = s.stopRequested := rfl
@[simp] theorem setDe_ime (s : State) (v : Word) : (setDe s v).ime = s.ime := rfl
@[simp] theorem setDe_imePending (s : State) (v : Word) : (setDe s v).imePending = s.imePending := rfl
@[simp] theorem setDe_ie (s : State) (v : Word) : (setDe s v).ie = s.ie := rfl
@[simp] theorem setDe_intf (s : State) (v : Word) : (setDe s v).intf = s.intf := rfl
@[simp] theorem setDe_mem (s : State) (v : Word) : (setDe s v).mem = s.mem := rfl
@[simp] theorem setDe_ppu (s : State) (v : Word) : (setDe s v).ppu = s.ppu := rfl
@[simp] theorem setDe_dmaReg (s : State) (v : Word) : (setDe s v).dmaReg = s.dmaReg := rfl
@[simp] theorem setDe_dma (s : State) (v : Word) : (setDe s v).dma = s.dma := rfl
@[simp] theorem setDe_timer (s : State) (v : Word) : (setDe s v).timer = s.timer := rfl
@[simp] theorem setDe_sb (s : State) (v : Word) : (setDe s v).sb = s.sb := rfl
@[simp] theorem setDe_sc (s : State) (v : Word) : (setDe s v).sc = s.sc := rfl
@[simp] theorem setDe_ticks (s : State) (v : Word) : (setDe s v).ticks = s.ticks := rfl
@[simp] theorem setDe_cart (s : State) (v : Word) : (setDe s v).cart = s.cart := rfl
@[simp] theorem setDe_joypad (s : State) (v : Word) : (setDe s v).joypad = s.joypad := rfl
@[simp] theorem setDe_audio (s : State) (v : Word) : (setDe s v).audio = s.audio := rfl
@[simp] theorem setDe_params (s : State) (v : Word) : (setDe s v).params = s.params := rfl
@[simp] theorem setDe_launch (s : State) (v : Word) : (setDe s v).launch = s.launch := rfl

/-! ### `setHl` -/

@[simp] theorem setHl_a (s : State) (v : Word) : (setHl s v).a = s.a := rfl
@[simp] theorem setHl_f (s : State) (v : Word) : (setHl s v).f = s.f := rfl
@[simp] theorem setHl_b (s : State) (v : Word) : (setHl s v).b = s.b := rfl
@[simp] theorem setHl_c (s : State) (v : Word) : (setHl s v).c = s.c := rfl
@[simp] theorem setHl_d (s : State) (v : Word) : (setHl s v).d = s.d := rfl
@[simp] theorem setHl_e (s : State) (v : Word) : (setHl s v).e = s.e := rfl
@[simp] theorem setHl_h (s : State) (v : Word) : (setHl s v).h = hiByte v := rfl
@[simp] theorem setHl_l (s : State) (v : Word) : (setHl s v).l = loByte v := rfl
@[simp] theorem setHl_sp (s : State) (v : Word) : (setHl s v).sp = s.sp := rfl
@[simp] theorem setHl_pc (s : State) (v : Word) : (setHl s v).pc = s.pc := rfl
@[simp] theorem setHl_halted (s : State) (v : Word) : (setHl s v).halted = s.halted := rfl
@[simp] theorem setHl_fatal (s : State) (v : Word) : (setHl s v).fatal = s.fatal := rfl
@[simp] theorem setHl_fatalInfo (s : State) (v : Word) : (setHl s v).fatalInfo = s.fatalInfo := rfl
@[simp] theorem setHl_stopRequested (s : State) (v : Word) : (setHl s v).stopRequested = s.stopRequested := rfl
@[simp] theorem setHl_ime (s : State) (v : Word) : (setHl s v).ime = s.ime := rfl
@[simp] theorem setHl_imePending (s : State) (v : Word) : (setHl s v).imePending = s.imePending := rfl
@[simp] theorem setHl_ie (s : State) (v : Word) : (setHl s v).ie = s.ie := rfl
@[simp] theorem setHl_intf (s : State) (v : Word) : (setHl s v).intf = s.intf := rfl
@[simp] theorem setHl_mem (s : State) (v : Word) : (setHl s v).mem = s.mem := rfl
@[simp] theorem setHl_ppu (s : State) (v : Word) : (setHl s v).ppu = s.ppu := rfl
@[simp] theorem setHl_dmaReg (s : State) (v : Word) : (setHl s v).dmaReg = s.dmaReg := rfl
@[simp] theorem setHl_dma (s : State) (v : Word) : (setHl s v).dma = s.dma := rfl
@[simp] theorem setHl_timer (s : State) (v : Word) : (setHl s v).timer = s.timer := rfl
@[simp] theorem setHl_sb (s : State) (v : Word) : (setHl s v).sb = s.sb := rfl
@[simp] theorem setHl_sc (s : State) (v : Word) : (setHl s v).sc = s.sc := rfl
@[simp] theorem setHl_ticks (s : State) (v : Word) : (setHl s v).ticks = s.ticks := rfl
@[simp] theorem setHl_cart (s : State) (v : Word) : (setHl s v).cart = s.cart := rfl
@[simp] theorem setHl_joypad (s : State) (v : Word) : (setHl s v).joypad = s.joypad := rfl
@[simp] theorem setHl_audio (s : State) (v : Word) : (setHl s v).audio = s.audio := rfl
@[simp] theorem setHl_params (s : State) (v : Word) : (setHl s v).params = s.params := rfl
@[simp] theorem setHl_launch (s : State) (v : Word) : (setHl s v).launch = s.launch := rfl

/-! ### `setAf` -/

@[simp] theorem setAf_a (s : State) (v : Word) : (setAf s v).a = hiByte v := rfl
@[simp] theorem setAf_f (s : State) (v : Word) : (setAf s v).f = loByte v &&& 0xF0#8 := rfl
@[simp] theorem setAf_b (s : State) (v : Word) : (setAf s v).b = s.b := rfl
@[simp] theorem setAf_c (s : State) (v : Word) : (setAf s v).c = s.c := rfl
@[simp] theorem setAf_d (s : State) (v : Word) : (setAf s v).d = s.d := rfl
@[simp] theorem setAf_e (s : State) (v : Word) : (setAf s v).e = s.e := rfl
@[simp] theorem setAf_h (s : State) (v : Word) : (setAf s v).h = s.h := rfl
@[simp] theorem setAf_l (s : State) (v : Word) : (setAf s v).l = s.l := rfl
@[simp] theorem setAf_sp (s : State) (v : Word) : (setAf s v).sp = s.sp := rfl
@[simp] theorem setAf_pc (s : State) (v : Word) : (setAf s v).pc = s.pc := rfl
@[simp] theorem setAf_halted (s : State) (v : Word) : (setAf s v).halted = s.halted := rfl
@[simp] theorem setAf_fatal (s : State) (v : Word) : (setAf s v).fatal = s.fatal := rfl
@[simp] theorem setAf_fatalInfo (s : State) (v : Word) : (setAf s v).fatalInfo = s.fatalInfo := rfl
@[simp] theorem setAf_stopRequested (s : State) (v : Word) : (setAf s v).stopRequested = s.stopRequested := rfl
@[simp] theorem setAf_ime (s : State) (v : Word) : (setAf s v).ime = s.ime := rfl
@[simp] theorem setAf_imePending (s : State) (v : Word) : (setAf s v).imePending = s.imePending := rfl
@[simp] theorem setAf_ie (s : State) (v : Word) : (setAf s v).ie = s.ie := rfl
@[simp] theorem setAf_intf (s : State) (v : Word) : (setAf s v).intf = s.intf := rfl
@[simp] theorem setAf_mem (s : State) (v : Word) : (setAf s v).mem = s.mem := rfl
@[simp] theorem setAf_ppu (s : State) (v : Word) : (setAf s v).ppu = s.ppu := rfl
@[simp] theorem setAf_dmaReg (s : State) (v : Word) : (setAf s v).dmaReg = s.dmaReg := rfl
@[simp] theorem setAf_dma (s : State) (v : Word) : (setAf s v).dma = s.dma := rfl
@[simp] theorem setAf_timer (s : State) (v : Word) : (setAf s v).timer = s.timer := rfl
@[simp] theorem setAf_sb (s : State) (v : Word) : (setAf s v).sb = s.sb := rfl
@[simp] theorem setAf_sc (s : State) (v : Word) : (setAf s v).sc = s.sc := rfl
@[simp] theorem setAf_ticks (s : State) (v : Word) : (setAf s v).ticks = s.ticks := rfl
@[simp] theorem setAf_cart (s : State) (v : Word) : (setAf s v).cart = s.cart := rfl
@[simp] theorem setAf_joypad (s : State) (v : Word) : (setAf s v).joypad = s.joypad := rfl
@[simp] theorem setAf_audio (s : State) (v : Word) : (setAf s v).audio = s.audio := rfl
@[simp] theorem setAf_params (s : State) (v : Word) : (setAf s v).params = s.params := rfl
@[simp] theorem setAf_launch (s : State) (v : Word) : (setAf s v).launch = s.launch := rfl

/-! ### `memStore` -/

@[simp] theorem memStore_a (s : State) (i : Nat) (v : Byte) : (memStore s i v).a = s.a := rfl
@[simp] theorem memStore_f (s : State) (i : Nat) (v : Byte) : (memStore s i v).f = s.f := rfl
@[simp] theorem memStore_b (s : State) (i : Nat) (v : Byte) : (memStore s i v).b = s.b := rfl
@[simp] theorem memStore_c (s : State) (i : Nat) (v : Byte) : (memStore s i v).c = s.c := rfl
@[simp] theorem memStore_d (s : State) (i : Nat) (v : Byte) : (memStore s i v).d = s.d := rfl
@[simp] theorem memStore_e (s : State) (i : Nat) (v : Byte) : (memStore s i v).e = s.e := rfl
@[simp] theorem memStore_h (s : State) (i : Nat) (v : Byte) : (memStore s i v).h = s.h := rfl
@[simp] theorem memStore_l (s : State) (i : Nat) (v : Byte) : (memStore s i v).l = s.l := rfl
@[simp] theorem memStore_sp (s : State) (i : Nat) (v : Byte) : (memStore s i v).sp = s.sp := rfl
@[simp] theorem memStore_pc (s : State) (i : Nat) (v : Byte) : (memStore s i v).pc = s.pc := rfl
@[simp] theorem memStore_halted (s : State) (i : Nat) (v : Byte) : (memStore s i v).halted = s.halted := rfl
@[simp] theorem memStore_fatal (s : State) (i : Nat) (v : Byte) : (memStore s i v).fatal = s.fatal := rfl
@[simp] theorem memStore_fatalInfo (s : State) (i : Nat) (v : Byte) : (memStore s i v).fatalInfo = s.fatalInfo := rfl
@[simp] theorem memStore_stopRequested (s : State) (i : Nat) (v : Byte) : (memStore s i v).stopRequested = s.stopRequested := rfl
@[simp] theorem memStore_ime (s : State) (i : Nat) (v : Byte) : (memStore s i v).ime = s.ime := rfl
@[simp] theorem memStore_imePending (s : State) (i : Nat) (v : Byte) : (memStore s i v).imePending = s.imePending := rfl
@[simp] theorem memStore_ie (s : State) (i : Nat) (v : Byte) : (memStore s i v).ie = s.ie := rfl
@[simp] theorem memStore_intf (s : State) (i : Nat) (v : Byte) : (memStore s i v).intf = s.intf := rfl
@[simp] theorem memStore_mem (s : State) (i : Nat) (v : Byte) : (memStore s i v).mem = Memory.write s.mem i v := rfl
@[simp] theorem memStore_ppu (s : State) (i : Nat) (v : Byte) : (memStore s i v).ppu = s.ppu := rfl
@[simp] theorem memStore_dmaReg (s : State) (i : Nat) (v : Byte) : (memStore s i v).dmaReg = s.dmaReg := rfl
@[simp] theorem memStore_dma (s : State) (i : Nat) (v : Byte) : (memStore s i v).dma = s.dma := rfl
@[simp] theorem memStore_timer (s : State) (i : Nat) (v : Byte) : (memStore s i v).timer = s.timer := rfl
@[simp] theorem memStore_sb (s : State) (i : Nat) (v : Byte) : (memStore s i v).sb = s.sb := rfl
@[simp] theorem memStore_sc (s : State) (i : Nat) (v : Byte) : (memStore s i v).sc = s.sc := rfl
@[simp] theorem memStore_ticks (s : State) (i : Nat) (v : Byte) : (memStore s i v).ticks = s.ticks := rfl
@[simp] theorem memStore_cart (s : State) (i : Nat) (v : Byte) : (memStore s i v).cart = s.cart := rfl
@[simp] theorem memStore_joypad (s : State) (i : Nat) (v : Byte) : (memStore s i v).joypad = s.joypad := rfl
@[simp] theorem memStore_audio (s : State) (i : Nat) (v : Byte) : (memStore s i v).audio = s.audio := rfl
@[simp] theorem memStore_params (s : State) (i : Nat) (v : Byte) : (memStore s i v).params = s.params := rfl
@[simp] theorem memStore_launch (s : State) (i : Nat) (v : Byte) : (memStore s i v).launch = s.launch := rfl

/-! ### `request` -/

@[simp] theorem request_a (s : State) (k : Source) : (request s k).a = s.a := rfl
@[simp] theorem request_f (s : State) (k : Source) : (request s k).f = s.f := rfl
@[simp] theorem request_b (s : State) (k : Source) : (request s k).b = s.b := rfl
@[simp] theorem request_c (s : State) (k : Source) : (request s k).c = s.c := rfl
@[simp] theorem request_d (s : State) (k : Source) : (request s k).d = s.d := rfl
@[simp] theorem request_e (s : State) (k : Source) : (request s k).e = s.e := rfl
@[simp] theorem request_h (s : State) (k : Source) : (request s k).h = s.h := rfl
@[simp] theorem request_l (s : State) (k : Source) : (request s k).l = s.l := rfl
@[simp] theorem request_sp (s : State) (k : Source) : (request s k).sp = s.sp := rfl
@[simp] theorem request_pc (s : State) (k : Source) : (request s k).pc = s.pc := rfl
@[simp] theorem request_halted (s : State) (k : Source) : (request s k).halted = s.halted := rfl
@[simp] theorem request_fatal (s : State) (k : Source) : (request s k).fatal = s.fatal := rfl
@[simp] theorem request_fatalInfo (s : State) (k : Source) : (request s k).fatalInfo = s.fatalInfo := rfl
@[simp] theorem request_stopRequested (s : State) (k : Source) : (request s k).stopRequested = s.stopRequested := rfl
@[simp] theorem request_ime (s : State) (k : Source) : (request s k).ime = s.ime := rfl
@[simp] theorem request_imePending (s : State) (k : Source) : (request s k).imePending = s.imePending := rfl
@[simp] theorem request_ie (s : State) (k : Source) : (request s k).ie = s.ie := rfl
@[simp] theorem request_intf (s : State) (k : Source) : (request s k).intf = s.intf ||| sourceMask k := rfl
@[simp] theorem request_mem (s : State) (k : Source) : (request s k).mem = s.mem := rfl
@[simp] theorem request_ppu (s : State) (k : Source) : (request s k).ppu = s.ppu := rfl
@[simp] theorem request_dmaReg (s : State) (k : Source) : (request s k).dmaReg = s.dmaReg := rfl
@[simp] theorem request_dma (s : State) (k : Source) : (request s k).dma = s.dma := rfl
@[simp] theorem request_timer (s : State) (k : Source) : (request s k).timer = s.timer := rfl
@[simp] theorem request_sb (s : State) (k : Source) : (request s k).sb = s.sb := rfl
@[simp] theorem request_sc (s : State) (k : Source) : (request s k).sc = s.sc := rfl
@[simp] theorem request_ticks (s : State) (k : Source) : (request s k).ticks = s.ticks := rfl
@[simp] theorem request_cart (s : State) (k : Source) : (request s k).cart = s.cart := rfl
@[simp] theorem request_joypad (s : State) (k : Source) : (request s k).joypad = s.joypad := rfl
@[simp] theorem request_audio (s : State) (k : Source) : (request s k).audio = s.audio := rfl
@[simp] theorem request_params (s : State) (k : Source) : (request s k).params = s.params := rfl
@[simp] theorem request_launch (s : State) (k : Source) : (request s k).launch = s.launch := rfl

/-! ### `enterHandler` -/

@[simp] theorem enterHandler_a (s : State) (k : Source) : (enterHandler s k).a = s.a := rfl
@[simp] theorem enterHandler_f (s : State) (k : Source) : (enterHandler s k).f = s.f := rfl
@[simp] theorem enterHandler_b (s : State) (k : Source) : (enterHandler s k).b = s.b := rfl
@[simp] theorem enterHandler_c (s : State) (k : Source) : (enterHandler s k).c = s.c := rfl
@[simp] theorem enterHandler_d (s : State) (k : Source) : (enterHandler s k).d = s.d := rfl
@[simp] theorem enterHandler_e (s : State) (k : Source) : (enterHandler s k).e = s.e := rfl
@[simp] theorem enterHandler_h (s : State) (k : Source) : (enterHandler s k).h = s.h := rfl
@[simp] theorem enterHandler_l (s : State) (k : Source) : (enterHandler s k).l = s.l := rfl
@[simp] theorem enterHandler_sp (s : State) (k : Source) : (enterHandler s k).sp = s.sp := rfl
@[simp] theorem enterHandler_pc (s : State) (k : Source) : (enterHandler s k).pc = sourceVector k := rfl
@[simp] theorem enterHandler_halted (s : State) (k : Source) : (enterHandler s k).halted = s.halted := rfl
@[simp] theorem enterHandler_fatal (s : State) (k : Source) : (enterHandler s k).fatal = s.fatal := rfl
@[simp] theorem enterHandler_fatalInfo (s : State) (k : Source) : (enterHandler s k).fatalInfo = s.fatalInfo := rfl
@[simp] theorem enterHandler_stopRequested (s : State) (k : Source) : (enterHandler s k).stopRequested = s.stopRequested := rfl
@[simp] theorem enterHandler_ime (s : State) (k : Source) : (enterHandler s k).ime = false := rfl
@[simp] theorem enterHandler_imePending (s : State) (k : Source) : (enterHandler s k).imePending = false := rfl
@[simp] theorem enterHandler_ie (s : State) (k : Source) : (enterHandler s k).ie = s.ie := rfl
@[simp] theorem enterHandler_intf (s : State) (k : Source) : (enterHandler s k).intf = s.intf &&& ~~~ sourceMask k := rfl
@[simp] theorem enterHandler_mem (s : State) (k : Source) : (enterHandler s k).mem = s.mem := rfl
@[simp] theorem enterHandler_ppu (s : State) (k : Source) : (enterHandler s k).ppu = s.ppu := rfl
@[simp] theorem enterHandler_dmaReg (s : State) (k : Source) : (enterHandler s k).dmaReg = s.dmaReg := rfl
@[simp] theorem enterHandler_dma (s : State) (k : Source) : (enterHandler s k).dma = s.dma := rfl
@[simp] theorem enterHandler_timer (s : State) (k : Source) : (enterHandler s k).timer = s.timer := rfl
@[simp] theorem enterHandler_sb (s : State) (k : Source) : (enterHandler s k).sb = s.sb := rfl
@[simp] theorem enterHandler_sc (s : State) (k : Source) : (enterHandler s k).sc = s.sc := rfl
@[simp] theorem enterHandler_ticks (s : State) (k : Source) : (enterHandler s k).ticks = s.ticks := rfl
@[simp] theorem enterHandler_cart (s : State) (k : Source) : (enterHandler s k).cart = s.cart := rfl
@[simp] theorem enterHandler_joypad (s : State) (k : Source) : (enterHandler s k).joypad = s.joypad := rfl
@[simp] theorem enterHandler_audio (s : State) (k : Source) : (enterHandler s k).audio = s.audio := rfl
@[simp] theorem enterHandler_params (s : State) (k : Source) : (enterHandler s k).params = s.params := rfl
@[simp] theorem enterHandler_launch (s : State) (k : Source) : (enterHandler s k).launch = s.launch := rfl

/-! ### `raiseFatal` -/

@[simp] theorem raiseFatal_a (s : State) (op : Byte) (p : Word) : (raiseFatal s op p).a = s.a := rfl
@[simp] theorem raiseFatal_f (s : State) (op : Byte) (p : Word) : (raiseFatal s op p).f = s.f := rfl
@[simp] theorem raiseFatal_b (s : State) (op : Byte) (p : Word) : (raiseFatal s op p).b = s.b := rfl
@[simp] theorem raiseFatal_c (s : State) (op : Byte) (p : Word) : (raiseFatal s op p).c = s.c := rfl
@[simp] theorem raiseFatal_d (s : State) (op : Byte) (p : Word) : (raiseFatal s op p).d = s.d := rfl
@[simp] theorem raiseFatal_e (s : State) (op : Byte) (p : Word) : (raiseFatal s op p).e = s.e := rfl
@[simp] theorem raiseFatal_h (s : State) (op : Byte) (p : Word) : (raiseFatal s op p).h = s.h := rfl
@[simp] theorem raiseFatal_l (s : State) (op : Byte) (p : Word) : (raiseFatal s op p).l = s.l := rfl
@[simp] theorem raiseFatal_sp (s : State) (op : Byte) (p : Word) : (raiseFatal s op p).sp = s.sp := rfl
@[simp] theorem raiseFatal_pc (s : State) (op : Byte) (p : Word) : (raiseFatal s op p).pc = s.pc := rfl
@[simp] theorem raiseFatal_halted (s : State) (op : Byte) (p : Word) : (raiseFatal s op p).halted = s.halted := rfl
@[simp] theorem raiseFatal_fatal (s : State) (op : Byte) (p : Word) : (raiseFatal s op p).fatal = true := rfl
@[simp] theorem raiseFatal_fatalInfo (s : State) (op : Byte) (p : Word) : (raiseFatal s op p).fatalInfo = some { opcode := op, addr := p, ticks := s.ticks } := rfl
@[simp] theorem raiseFatal_stopRequested (s : State) (op : Byte) (p : Word) : (raiseFatal s op p).stopRequested = s.stopRequested := rfl
@[simp] theorem raiseFatal_ime (s : State) (op : Byte) (p : Word) : (raiseFatal s op p).ime = s.ime := rfl
@[simp] theorem raiseFatal_imePending (s : State) (op : Byte) (p : Word) : (raiseFatal s op p).imePending = s.imePending := rfl
@[simp] theorem raiseFatal_ie (s : State) (op : Byte) (p : Word) : (raiseFatal s op p).ie = s.ie := rfl
@[simp] theorem raiseFatal_intf (s : State) (op : Byte) (p : Word) : (raiseFatal s op p).intf = s.intf := rfl
@[simp] theorem raiseFatal_mem (s : State) (op : Byte) (p : Word) : (raiseFatal s op p).mem = s.mem := rfl
@[simp] theorem raiseFatal_ppu (s : State) (op : Byte) (p : Word) : (raiseFatal s op p).ppu = s.ppu := rfl
@[simp] theorem raiseFatal_dmaReg (s : State) (op : Byte) (p : Word) : (raiseFatal s op p).dmaReg = s.dmaReg := rfl
@[simp] theorem raiseFatal_dma (s : State) (op : Byte) (p : Word) : (raiseFatal s op p).dma = s.dma := rfl
@[simp] theorem raiseFatal_timer (s : State) (op : Byte) (p : Word) : (raiseFatal s op p).timer = s.timer := rfl
@[simp] theorem raiseFatal_sb (s : State) (op : Byte) (p : Word) : (raiseFatal s op p).sb = s.sb := rfl
@[simp] theorem raiseFatal_sc (s : State) (op : Byte) (p : Word) : (raiseFatal s op p).sc = s.sc := rfl
@[simp] theorem raiseFatal_ticks (s : State) (op : Byte) (p : Word) : (raiseFatal s op p).ticks = s.ticks := rfl
@[simp] theorem raiseFatal_cart (s : State) (op : Byte) (p : Word) : (raiseFatal s op p).cart = s.cart := rfl
@[simp] theorem raiseFatal_joypad (s : State) (op : Byte) (p : Word) : (raiseFatal s op p).joypad = s.joypad := rfl
@[simp] theorem raiseFatal_audio (s : State) (op : Byte) (p : Word) : (raiseFatal s op p).audio = s.audio := rfl
@[simp] theorem raiseFatal_params (s : State) (op : Byte) (p : Word) : (raiseFatal s op p).params = s.params := rfl
@[simp] theorem raiseFatal_launch (s : State) (op : Byte) (p : Word) : (raiseFatal s op p).launch = s.launch := rfl

/-! ### `writeReg` -/

@[simp] theorem writeReg_f (s : State) (r : Reg8) (v : Byte) : (writeReg s r v).f = s.f := by cases r <;> rfl
@[simp] theorem writeReg_sp (s : State) (r : Reg8) (v : Byte) : (writeReg s r v).sp = s.sp := by cases r <;> rfl
@[simp] theorem writeReg_pc (s : State) (r : Reg8) (v : Byte) : (writeReg s r v).pc = s.pc := by cases r <;> rfl
@[simp] theorem writeReg_halted (s : State) (r : Reg8) (v : Byte) : (writeReg s r v).halted = s.halted := by cases r <;> rfl
@[simp] theorem writeReg_fatal (s : State) (r : Reg8) (v : Byte) : (writeReg s r v).fatal = s.fatal := by cases r <;> rfl
@[simp] theorem writeReg_fatalInfo (s : State) (r : Reg8) (v : Byte) : (writeReg s r v).fatalInfo = s.fatalInfo := by cases r <;> rfl
@[simp] theorem writeReg_stopRequested (s : State) (r : Reg8) (v : Byte) : (writeReg s r v).stopRequested = s.stopRequested := by cases r <;> rfl
@[simp] theorem writeReg_ime (s : State) (r : Reg8) (v : Byte) : (writeReg s r v).ime = s.ime := by cases r <;> rfl
@[simp] theorem writeReg_imePending (s : State) (r : Reg8) (v : Byte) : (writeReg s r v).imePending = s.imePending := by cases r <;> rfl
@[simp] theorem writeReg_ie (s : State) (r : Reg8) (v : Byte) : (writeReg s r v).ie = s.ie := by cases r <;> rfl
@[simp] theorem writeReg_intf (s : State) (r : Reg8) (v : Byte) : (writeReg s r v).intf = s.intf := by cases r <;> rfl
@[simp] theorem writeReg_mem (s : State) (r : Reg8) (v : Byte) : (writeReg s r v).mem = s.mem := by cases r <;> rfl
@[simp] theorem writeReg_ppu (s : State) (r : Reg8) (v : Byte) : (writeReg s r v).ppu = s.ppu := by cases r <;> rfl
@[simp] theorem writeReg_dmaReg (s : State) (r : Reg8) (v : Byte) : (writeReg s r v).dmaReg = s.dmaReg := by cases r <;> rfl
@[simp] theorem writeReg_dma (s : State) (r : Reg8) (v : Byte) : (writeReg s r v).dma = s.dma := by cases r <;> rfl
@[simp] theorem writeReg_timer (s : State) (r : Reg8) (v : Byte) : (writeReg s r v).timer = s.timer := by cases r <;> rfl
@[simp] theorem writeReg_sb (s : State) (r : Reg8) (v : Byte) : (writeReg s r v).sb = s.sb := by cases r <;> rfl
@[simp] theorem writeReg_sc (s : State) (r : Reg8) (v : Byte) : (writeReg s r v).sc = s.sc := by cases r <;> rfl
@[simp] theorem writeReg_ticks (s : State) (r : Reg8) (v : Byte) : (writeReg s r v).ticks = s.ticks := by cases r <;> rfl
@[simp] theorem writeReg_cart (s : State) (r : Reg8) (v : Byte) : (writeReg s r v).cart = s.cart := by cases r <;> rfl
@[simp] theorem writeReg_joypad (s : State) (r : Reg8) (v : Byte) : (writeReg s r v).joypad = s.joypad := by cases r <;> rfl
@[simp] theorem writeReg_audio (s : State) (r : Reg8) (v : Byte) : (writeReg s r v).audio = s.audio := by cases r <;> rfl
@[simp] theorem writeReg_params (s : State) (r : Reg8) (v : Byte) : (writeReg s r v).params = s.params := by cases r <;> rfl
@[simp] theorem writeReg_launch (s : State) (r : Reg8) (v : Byte) : (writeReg s r v).launch = s.launch := by cases r <;> rfl

/-- The register written reads as written. -/
@[simp] theorem readReg_writeReg (s : State) (r : Reg8) (v : Byte) : readReg (writeReg s r v) r = v := by cases r <;> rfl

/-- Every other register reads as before. -/
theorem readReg_writeReg_ne (s : State) {r q : Reg8} (v : Byte) (h : q ≠ r) :
    readReg (writeReg s r v) q = readReg s q := by cases r <;> cases q <;> first | rfl | exact absurd rfl h

@[simp] theorem readReg_writeF (s : State) (v : Byte) (r : Reg8) : readReg (writeF s v) r = readReg s r := by cases r <;> rfl
@[simp] theorem readReg_setFlags (s : State) (z n h c : Option Bool) (r : Reg8) : readReg (setFlags s z n h c) r = readReg s r := by cases r <;> rfl
@[simp] theorem readReg_memStore (s : State) (i : Nat) (v : Byte) (r : Reg8) : readReg (memStore s i v) r = readReg s r := by cases r <;> rfl
@[simp] theorem readReg_request (s : State) (k : Source) (r : Reg8) : readReg (request s k) r = readReg s r := by cases r <;> rfl
@[simp] theorem readReg_enterHandler (s : State) (k : Source) (r : Reg8) : readReg (enterHandler s k) r = readReg s r := by cases r <;> rfl
@[simp] theorem readReg_raiseFatal (s : State) (op : Byte) (p : Word) (r : Reg8) : readReg (raiseFatal s op p) r = readReg s r := by cases r <;> rfl

/-! ### `writePair` -/

@[simp] theorem writePair_a (s : State) (rr : RegPair) (v : Word) : (writePair s rr v).a = s.a := by cases rr <;> rfl
@[simp] theorem writePair_f (s : State) (rr : RegPair) (v : Word) : (writePair s rr v).f = s.f := by cases rr <;> rfl
@[simp] theorem writePair_pc (s : State) (rr : RegPair) (v : Word) : (writePair s rr v).pc = s.pc := by cases rr <;> rfl
@[simp] theorem writePair_halted (s : State) (rr : RegPair) (v : Word) : (writePair s rr v).halted = s.halted := by cases rr <;> rfl
@[simp] theorem writePair_fatal (s : State) (rr : RegPair) (v : Word) : (writePair s rr v).fatal = s.fatal := by cases rr <;> rfl
@[simp] theorem writePair_fatalInfo (s : State) (rr : RegPair) (v : Word) : (writePair s rr v).fatalInfo = s.fatalInfo := by cases rr <;> rfl
@[simp] theorem writePair_stopRequested (s : State) (rr : RegPair) (v : Word) : (writePair s rr v).stopRequested = s.stopRequested := by cases rr <;> rfl
@[simp] theorem writePair_ime (s : State) (rr : RegPair) (v : Word) : (writePair s rr v).ime = s.ime := by cases rr <;> rfl
@[simp] theorem writePair_imePending (s : State) (rr : RegPair) (v : Word) : (writePair s rr v).imePending = s.imePending := by cases rr <;> rfl
@[simp] theorem writePair_ie (s : State) (rr : RegPair) (v : Word) : (writePair s rr v).ie = s.ie := by cases rr <;> rfl
@[simp] theorem writePair_intf (s : State) (rr : RegPair) (v : Word) : (writePair s rr v).intf = s.intf := by cases rr <;> rfl
@[simp] theorem writePair_mem (s : State) (rr : RegPair) (v : Word) : (writePair s rr v).mem = s.mem := by cases rr <;> rfl
@[simp] theorem writePair_ppu (s : State) (rr : RegPair) (v : Word) : (writePair s rr v).ppu = s.ppu := by cases rr <;> rfl
@[simp] theorem writePair_dmaReg (s : State) (rr : RegPair) (v : Word) : (writePair s rr v).dmaReg = s.dmaReg := by cases rr <;> rfl
@[simp] theorem writePair_dma (s : State) (rr : RegPair) (v : Word) : (writePair s rr v).dma = s.dma := by cases rr <;> rfl
@[simp] theorem writePair_timer (s : State) (rr : RegPair) (v : Word) : (writePair s rr v).timer = s.timer := by cases rr <;> rfl
@[simp] theorem writePair_sb (s : State) (rr : RegPair) (v : Word) : (writePair s rr v).sb = s.sb := by cases rr <;> rfl
@[simp] theorem writePair_sc (s : State) (rr : RegPair) (v : Word) : (writePair s rr v).sc = s.sc := by cases rr <;> rfl
@[simp] theorem writePair_ticks (s : State) (rr : RegPair) (v : Word) : (writePair s rr v).ticks = s.ticks := by cases rr <;> rfl
@[simp] theorem writePair_cart (s : State) (rr : RegPair) (v : Word) : (writePair s rr v).cart = s.cart := by cases rr <;> rfl
@[simp] theorem writePair_joypad (s : State) (rr : RegPair) (v : Word) : (writePair s rr v).joypad = s.joypad := by cases rr <;> rfl
@[simp] theorem writePair_audio (s : State) (rr : RegPair) (v : Word) : (writePair s rr v).audio = s.audio := by cases rr <;> rfl
@[simp] theorem writePair_params (s : State) (rr : RegPair) (v : Word) : (writePair s rr v).params = s.params := by cases rr <;> rfl
@[simp] theorem writePair_launch (s : State) (rr : RegPair) (v : Word) : (writePair s rr v).launch = s.launch := by cases rr <;> rfl

/-! ### `writeStackPair` -/

@[simp] theorem writeStackPair_sp (s : State) (rr : StackPair) (v : Word) : (writeStackPair s rr v).sp = s.sp := by cases rr <;> rfl
@[simp] theorem writeStackPair_pc (s : State) (rr : StackPair) (v : Word) : (writeStackPair s rr v).pc = s.pc := by cases rr <;> rfl
@[simp] theorem writeStackPair_halted (s : State) (rr : StackPair) (v : Word) : (writeStackPair s rr v).halted = s.halted := by cases rr <;> rfl
@[simp] theorem writeStackPair_fatal (s : State) (rr : StackPair) (v : Word) : (writeStackPair s rr v).fatal = s.fatal := by cases rr <;> rfl
@[simp] theorem writeStackPair_fatalInfo (s : State) (rr : StackPair) (v : Word) : (writeStackPair s rr v).fatalInfo = s.fatalInfo := by cases rr <;> rfl
@[simp] theorem writeStackPair_stopRequested (s : State) (rr : StackPair) (v : Word) : (writeStackPair s rr v).stopRequested = s.stopRequested := by cases rr <;> rfl
@[simp] theorem writeStackPair_ime (s : State) (rr : StackPair) (v : Word) : (writeStackPair s rr v).ime = s.ime := by cases rr <;> rfl
@[simp] theorem writeStackPair_imePending (s : State) (rr : StackPair) (v : Word) : (writeStackPair s rr v).imePending = s.imePending := by cases rr <;> rfl
@[simp] theorem writeStackPair_ie (s : State) (rr : StackPair) (v : Word) : (writeStackPair s rr v).ie = s.ie := by cases rr <;> rfl
@[simp] theorem writeStackPair_intf (s : State) (rr : StackPair) (v : Word) : (writeStackPair s rr v).intf = s.intf := by cases rr <;> rfl
@[simp] theorem writeStackPair_mem (s : State) (rr : StackPair) (v : Word) : (writeStackPair s rr v).mem = s.mem := by cases rr <;> rfl
@[simp] theorem writeStackPair_ppu (s : State) (rr : StackPair) (v : Word) : (writeStackPair s rr v).ppu = s.ppu := by cases rr <;> rfl
@[simp] theorem writeStackPair_dmaReg (s : State) (rr : StackPair) (v : Word) : (writeStackPair s rr v).dmaReg = s.dmaReg := by cases rr <;> rfl
@[simp] theorem writeStackPair_dma (s : State) (rr : StackPair) (v : Word) : (writeStackPair s rr v).dma = s.dma := by cases rr <;> rfl
@[simp] theorem writeStackPair_timer (s : State) (rr : StackPair) (v : Word) : (writeStackPair s rr v).timer = s.timer := by cases rr <;> rfl
@[simp] theorem writeStackPair_sb (s : State) (rr : StackPair) (v : Word) : (writeStackPair s rr v).sb = s.sb := by cases rr <;> rfl
@[simp] theorem writeStackPair_sc (s : State) (rr : StackPair) (v : Word) : (writeStackPair s rr v).sc = s.sc := by cases rr <;> rfl
@[simp] theorem writeStackPair_ticks (s : State) (rr : StackPair) (v : Word) : (writeStackPair s rr v).ticks = s.ticks := by cases rr <;> rfl
@[simp] theorem writeStackPair_cart (s : State) (rr : StackPair) (v : Word) : (writeStackPair s rr v).cart = s.cart := by cases rr <;> rfl
@[simp] theorem writeStackPair_joypad (s : State) (rr : StackPair) (v : Word) : (writeStackPair s rr v).joypad = s.joypad := by cases rr <;> rfl
@[simp] theorem writeStackPair_audio (s : State) (rr : StackPair) (v : Word) : (writeStackPair s rr v).audio = s.audio := by cases rr <;> rfl
@[simp] theorem writeStackPair_params (s : State) (rr : StackPair) (v : Word) : (writeStackPair s rr v).params = s.params := by cases rr <;> rfl
@[simp] theorem writeStackPair_launch (s : State) (rr : StackPair) (v : Word) : (writeStackPair s rr v).launch = s.launch := by cases rr <;> rfl

/-! ### Bytes and words -/

@[simp] theorem hiByte_wordOf (hi lo : Byte) : hiByte (wordOf hi lo) = hi := by
  apply BitVec.eq_of_getLsbD_eq
  intro i hi'
  simp only [hiByte, wordOf, BitVec.getLsbD_extractLsb', BitVec.getLsbD_append, hi', decide_true, Bool.true_and]
  simp

@[simp] theorem loByte_wordOf (hi lo : Byte) : loByte (wordOf hi lo) = lo := by
  apply BitVec.eq_of_getLsbD_eq
  intro i hi'
  simp only [loByte, wordOf, BitVec.getLsbD_extractLsb', BitVec.getLsbD_append, hi', decide_true, Bool.true_and]
  simp [hi']

@[simp] theorem wordOf_halves (v : Word) : wordOf (hiByte v) (loByte v) = v := by
  apply BitVec.eq_of_getLsbD_eq
  intro i hi'
  simp only [wordOf, hiByte, loByte, BitVec.getLsbD_append, BitVec.getLsbD_extractLsb']
  by_cases h : i < 8
  · simp [h]
  · have : 8 + (i - 8) = i := by omega
    simp [h, this]
    omega

/-- The pair written reads as written. -/
@[simp] theorem readPair_writePair (s : State) (rr : RegPair) (v : Word) : readPair (writePair s rr v) rr = v := by
  cases rr <;> simp [readPair, writePair, bcOf, deOf, hlOf]

/-- The pair written reads as written, AF less F's low nibble. -/
theorem readStackPair_writeStackPair (s : State) (rr : StackPair) (v : Word) :
    readStackPair (writeStackPair s rr v) rr = if rr = .af then v &&& 0xFFF0#16 else v := by
  cases rr
  case af =>
    simp only [readStackPair, writeStackPair, afOf, readF, setAf_a, setAf_f, if_true]
    apply BitVec.eq_of_getLsbD_eq
    intro i hi
    simp only [wordOf, hiByte, loByte, BitVec.getLsbD_append, BitVec.getLsbD_and, BitVec.getLsbD_extractLsb']
    rcases (by omega : i = 0 ∨ i = 1 ∨ i = 2 ∨ i = 3 ∨ i = 4 ∨ i = 5 ∨ i = 6 ∨ i = 7 ∨ i = 8 ∨ i = 9 ∨ i = 10 ∨
      i = 11 ∨ i = 12 ∨ i = 13 ∨ i = 14 ∨ i = 15) with
      rfl | rfl | rfl | rfl | rfl | rfl | rfl | rfl | rfl | rfl | rfl | rfl | rfl | rfl | rfl | rfl <;> simp
  all_goals simp [readStackPair, writeStackPair, bcOf, deOf, hlOf]

end Sys2Proof.Machine
end

