-- ==== Sys2Proof/Laws/Cycle.lean ====
section
/-! SUPPORT. What a bus read leaves, what a bus write can change, and what the passing of time can change: one lemma for
each, then the field-by-field consequences. -/

namespace Sys2Proof.Machine

/-! ### A bus read -/

/-- A read can change the own state of the cartridge, the joypad and the audio unit only (R62, R76). -/
theorem afterRead_frame (s : State) (a : Word) :
    ∃ c j u, afterRead s a = { s with cart := c, joypad := j, audio := u } := by
  unfold afterRead cartAfterRead
  cases regionOf a <;> simp only
  case cartRom => cases h : s.cart <;> exact ⟨_, _, _, rfl⟩
  case cartRam => cases h : s.cart <;> exact ⟨_, _, _, rfl⟩
  case io => cases ioRegAt a <;> exact ⟨_, _, _, rfl⟩
  all_goals exact ⟨_, _, _, rfl⟩

@[simp] theorem afterRead_a (s : State) (a : Word) : (afterRead s a).a = s.a := by
  obtain ⟨_, _, _, h⟩ := afterRead_frame s a; rw [h]
@[simp] theorem afterRead_f (s : State) (a : Word) : (afterRead s a).f = s.f := by
  obtain ⟨_, _, _, h⟩ := afterRead_frame s a; rw [h]
@[simp] theorem afterRead_b (s : State) (a : Word) : (afterRead s a).b = s.b := by
  obtain ⟨_, _, _, h⟩ := afterRead_frame s a; rw [h]
@[simp] theorem afterRead_c (s : State) (a : Word) : (afterRead s a).c = s.c := by
  obtain ⟨_, _, _, h⟩ := afterRead_frame s a; rw [h]
@[simp] theorem afterRead_d (s : State) (a : Word) : (afterRead s a).d = s.d := by
  obtain ⟨_, _, _, h⟩ := afterRead_frame s a; rw [h]
@[simp] theorem afterRead_e (s : State) (a : Word) : (afterRead s a).e = s.e := by
  obtain ⟨_, _, _, h⟩ := afterRead_frame s a; rw [h]
@[simp] theorem afterRead_h (s : State) (a : Word) : (afterRead s a).h = s.h := by
  obtain ⟨_, _, _, h⟩ := afterRead_frame s a; rw [h]
@[simp] theorem afterRead_l (s : State) (a : Word) : (afterRead s a).l = s.l := by
  obtain ⟨_, _, _, h⟩ := afterRead_frame s a; rw [h]
@[simp] theorem afterRead_sp (s : State) (a : Word) : (afterRead s a).sp = s.sp := by
  obtain ⟨_, _, _, h⟩ := afterRead_frame s a; rw [h]
@[simp] theorem afterRead_pc (s : State) (a : Word) : (afterRead s a).pc = s.pc := by
  obtain ⟨_, _, _, h⟩ := afterRead_frame s a; rw [h]
@[simp] theorem afterRead_halted (s : State) (a : Word) : (afterRead s a).halted = s.halted := by
  obtain ⟨_, _, _, h⟩ := afterRead_frame s a; rw [h]
@[simp] theorem afterRead_fatal (s : State) (a : Word) : (afterRead s a).fatal = s.fatal := by
  obtain ⟨_, _, _, h⟩ := afterRead_frame s a; rw [h]
@[simp] theorem afterRead_fatalInfo (s : State) (a : Word) : (afterRead s a).fatalInfo = s.fatalInfo := by
  obtain ⟨_, _, _, h⟩ := afterRead_frame s a; rw [h]
@[simp] theorem afterRead_stopRequested (s : State) (a : Word) : (afterRead s a).stopRequested = s.stopRequested := by
  obtain ⟨_, _, _, h⟩ := afterRead_frame s a; rw [h]
@[simp] theorem afterRead_ime (s : State) (a : Word) : (afterRead s a).ime = s.ime := by
  obtain ⟨_, _, _, h⟩ := afterRead_frame s a; rw [h]
@[simp] theorem afterRead_imePending (s : State) (a : Word) : (afterRead s a).imePending = s.imePending := by
  obtain ⟨_, _, _, h⟩ := afterRead_frame s a; rw [h]
@[simp] theorem afterRead_ie (s : State) (a : Word) : (afterRead s a).ie = s.ie := by
  obtain ⟨_, _, _, h⟩ := afterRead_frame s a; rw [h]
@[simp] theorem afterRead_intf (s : State) (a : Word) : (afterRead s a).intf = s.intf := by
  obtain ⟨_, _, _, h⟩ := afterRead_frame s a; rw [h]
@[simp] theorem afterRead_mem (s : State) (a : Word) : (afterRead s a).mem = s.mem := by
  obtain ⟨_, _, _, h⟩ := afterRead_frame s a; rw [h]
@[simp] theorem afterRead_ppu (s : State) (a : Word) : (afterRead s a).ppu = s.ppu := by
  obtain ⟨_, _, _, h⟩ := afterRead_frame s a; rw [h]
@[simp] theorem afterRead_dmaReg (s : State) (a : Word) : (afterRead s a).dmaReg = s.dmaReg := by
  obtain ⟨_, _, _, h⟩ := afterRead_frame s a; rw [h]
@[simp] theorem afterRead_dma (s : State) (a : Word) : (afterRead s a).dma = s.dma := by
  obtain ⟨_, _, _, h⟩ := afterRead_frame s a; rw [h]
@[simp] theorem afterRead_timer (s : State) (a : Word) : (afterRead s a).timer = s.timer := by
  obtain ⟨_, _, _, h⟩ := afterRead_frame s a; rw [h]
@[simp] theorem afterRead_sb (s : State) (a : Word) : (afterRead s a).sb = s.sb := by
  obtain ⟨_, _, _, h⟩ := afterRead_frame s a; rw [h]
@[simp] theorem afterRead_sc (s : State) (a : Word) : (afterRead s a).sc = s.sc := by
  obtain ⟨_, _, _, h⟩ := afterRead_frame s a; rw [h]
@[simp] theorem afterRead_ticks (s : State) (a : Word) : (afterRead s a).ticks = s.ticks := by
  obtain ⟨_, _, _, h⟩ := afterRead_frame s a; rw [h]
@[simp] theorem afterRead_params (s : State) (a : Word) : (afterRead s a).params = s.params := by
  obtain ⟨_, _, _, h⟩ := afterRead_frame s a; rw [h]
@[simp] theorem afterRead_launch (s : State) (a : Word) : (afterRead s a).launch = s.launch := by
  obtain ⟨_, _, _, h⟩ := afterRead_frame s a; rw [h]
@[simp] theorem readReg_afterRead (s : State) (a : Word) (r : Reg8) : readReg (afterRead s a) r = readReg s r := by
  cases r <;> simp [readReg]

/-- Each collaborator that is at its default instance in `s` is at it in `t`, the joypad with the same snapshot (R6). -/
structure KeepsUnits (s t : State) : Prop where
  cart : s.cart = .rom32k → t.cart = .rom32k
  joypad : ∀ v, s.joypad = .snapshot v → t.joypad = .snapshot v
  audio : s.audio = .silent → t.audio = .silent
  timer : ∀ r, s.timer = .reference r → ∃ r', t.timer = .reference r'

theorem KeepsUnits.refl (s : State) : KeepsUnits s s := ⟨id, fun _ => id, id, fun r h => ⟨r, h⟩⟩

theorem KeepsUnits.trans {s t u : State} (h : KeepsUnits s t) (k : KeepsUnits t u) : KeepsUnits s u where
  cart hc := k.cart (h.cart hc)
  joypad v hv := k.joypad v (h.joypad v hv)
  audio ha := k.audio (h.audio ha)
  timer r hr := by obtain ⟨r', hr'⟩ := h.timer r hr; exact k.timer r' hr'

/-- A read keeps every default instance (R66, R71, R72). -/
theorem afterRead_keepsUnits (s : State) (a : Word) : KeepsUnits s (afterRead s a) := by
  unfold afterRead cartAfterRead
  cases regionOf a <;> simp only
  case io =>
    cases ioRegAt a <;> first
      | exact .refl s
      | exact ⟨id, fun v h => by simp [ioAfterRead, joypadAfterRead, h], id, fun r h => ⟨r, h⟩⟩
      | exact ⟨id, fun _ => id, fun h => by simp [ioAfterRead, audioAfterRead, h], fun r h => ⟨r, h⟩⟩
  all_goals first | exact .refl s | skip
  all_goals
    cases hc : s.cart with
    | rom32k => exact .refl s
    | external own => exact ⟨fun h => absurd (hc.symm.trans h) (by simp), fun _ => id, id, fun r h => ⟨r, h⟩⟩

/-! ### A bus write -/

/-- A list of requests changes the pending mask only (R364). -/
theorem requests_frame (ks : List Source) (s : State) : ∃ intf, requests s ks = { s with intf := intf } := ⟨_, rfl⟩

/-- No request, and one after another (R364). -/
theorem requests_cons (s : State) (k : Source) (ks : List Source) : requests s (k :: ks) = requests (request s k) ks := rfl

/-- A write of a timer register changes the timer and may request TIMER (R380). -/
theorem ioWrite_timer (s : State) (r : TimerReg) (v : Byte) :
    ∃ i, ioWrite s (.timer r) v = { s with timer := timerWrite s.timer r v, intf := i } :=
  requests_frame _ { s with timer := timerWrite s.timer r v }

/-- A write can change IE, IF, memory, the picture generator's registers, the DMA unit, the serial bytes and the four
collaborators; the CPU's registers and its run state it cannot reach (R21, R63). -/
theorem busWrite_frame (s : State) (a : Word) (v : Byte) :
    ∃ ie intf mem ppu dmaReg dma timer sb sc cart joypad audio, busWrite s a v =
      { s with ie := ie, intf := intf, mem := mem, ppu := ppu, dmaReg := dmaReg, dma := dma, timer := timer, sb := sb,
               sc := sc, cart := cart, joypad := joypad, audio := audio } := by
  unfold busWrite cartWrite memStore
  cases regionOf a <;> simp only
  case cartRom => cases h : s.cart <;> exact ⟨_, _, _, _, _, _, _, _, _, _, _, _, rfl⟩
  case cartRam => cases h : s.cart <;> exact ⟨_, _, _, _, _, _, _, _, _, _, _, _, rfl⟩
  case oam => cases h : s.dma.active <;> exact ⟨_, _, _, _, _, _, _, _, _, _, _, _, rfl⟩
  case io =>
    cases ioRegAt a <;> exact ⟨_, _, _, _, _, _, _, _, _, _, _, _, rfl⟩
  all_goals exact ⟨_, _, _, _, _, _, _, _, _, _, _, _, rfl⟩

@[simp] theorem busWrite_a (s : State) (a : Word) (v : Byte) : (busWrite s a v).a = s.a := by
  obtain ⟨_, _, _, _, _, _, _, _, _, _, _, _, h⟩ := busWrite_frame s a v; rw [h]
@[simp] theorem busWrite_f (s : State) (a : Word) (v : Byte) : (busWrite s a v).f = s.f := by
  obtain ⟨_, _, _, _, _, _, _, _, _, _, _, _, h⟩ := busWrite_frame s a v; rw [h]
@[simp] theorem busWrite_b (s : State) (a : Word) (v : Byte) : (busWrite s a v).b = s.b := by
  obtain ⟨_, _, _, _, _, _, _, _, _, _, _, _, h⟩ := busWrite_frame s a v; rw [h]
@[simp] theorem busWrite_c (s : State) (a : Word) (v : Byte) : (busWrite s a v).c = s.c := by
  obtain ⟨_, _, _, _, _, _, _, _, _, _, _, _, h⟩ := busWrite_frame s a v; rw [h]
@[simp] theorem busWrite_d (s : State) (a : Word) (v : Byte) : (busWrite s a v).d = s.d := by
  obtain ⟨_, _, _, _, _, _, _, _, _, _, _, _, h⟩ := busWrite_frame s a v; rw [h]
@[simp] theorem busWrite_e (s : State) (a : Word) (v : Byte) : (busWrite s a v).e = s.e := by
  obtain ⟨_, _, _, _, _, _, _, _, _, _, _, _, h⟩ := busWrite_frame s a v; rw [h]
@[simp] theorem busWrite_h (s : State) (a : Word) (v : Byte) : (busWrite s a v).h = s.h := by
  obtain ⟨_, _, _, _, _, _, _, _, _, _, _, _, h⟩ := busWrite_frame s a v; rw [h]
@[simp] theorem busWrite_l (s : State) (a : Word) (v : Byte) : (busWrite s a v).l = s.l := by
  obtain ⟨_, _, _, _, _, _, _, _, _, _, _, _, h⟩ := busWrite_frame s a v; rw [h]
@[simp] theorem busWrite_sp (s : State) (a : Word) (v : Byte) : (busWrite s a v).sp = s.sp := by
  obtain ⟨_, _, _, _, _, _, _, _, _, _, _, _, h⟩ := busWrite_frame s a v; rw [h]
@[simp] theorem busWrite_pc (s : State) (a : Word) (v : Byte) : (busWrite s a v).pc = s.pc := by
  obtain ⟨_, _, _, _, _, _, _, _, _, _, _, _, h⟩ := busWrite_frame s a v; rw [h]
@[simp] theorem busWrite_halted (s : State) (a : Word) (v : Byte) : (busWrite s a v).halted = s.halted := by
  obtain ⟨_, _, _, _, _, _, _, _, _, _, _, _, h⟩ := busWrite_frame s a v; rw [h]
@[simp] theorem busWrite_fatal (s : State) (a : Word) (v : Byte) : (busWrite s a v).fatal = s.fatal := by
  obtain ⟨_, _, _, _, _, _, _, _, _, _, _, _, h⟩ := busWrite_frame s a v; rw [h]
@[simp] theorem busWrite_fatalInfo (s : State) (a : Word) (v : Byte) : (busWrite s a v).fatalInfo = s.fatalInfo := by
  obtain ⟨_, _, _, _, _, _, _, _, _, _, _, _, h⟩ := busWrite_frame s a v; rw [h]
@[simp] theorem busWrite_stopRequested (s : State) (a : Word) (v : Byte) : (busWrite s a v).stopRequested = s.stopRequested := by
  obtain ⟨_, _, _, _, _, _, _, _, _, _, _, _, h⟩ := busWrite_frame s a v; rw [h]
@[simp] theorem busWrite_ime (s : State) (a : Word) (v : Byte) : (busWrite s a v).ime = s.ime := by
  obtain ⟨_, _, _, _, _, _, _, _, _, _, _, _, h⟩ := busWrite_frame s a v; rw [h]
@[simp] theorem busWrite_imePending (s : State) (a : Word) (v : Byte) : (busWrite s a v).imePending = s.imePending := by
  obtain ⟨_, _, _, _, _, _, _, _, _, _, _, _, h⟩ := busWrite_frame s a v; rw [h]
@[simp] theorem busWrite_ticks (s : State) (a : Word) (v : Byte) : (busWrite s a v).ticks = s.ticks := by
  obtain ⟨_, _, _, _, _, _, _, _, _, _, _, _, h⟩ := busWrite_frame s a v; rw [h]
@[simp] theorem busWrite_params (s : State) (a : Word) (v : Byte) : (busWrite s a v).params = s.params := by
  obtain ⟨_, _, _, _, _, _, _, _, _, _, _, _, h⟩ := busWrite_frame s a v; rw [h]
@[simp] theorem busWrite_launch (s : State) (a : Word) (v : Byte) : (busWrite s a v).launch = s.launch := by
  obtain ⟨_, _, _, _, _, _, _, _, _, _, _, _, h⟩ := busWrite_frame s a v; rw [h]
@[simp] theorem readReg_busWrite (s : State) (a : Word) (v : Byte) (r : Reg8) :
    readReg (busWrite s a v) r = readReg s r := by cases r <;> simp [readReg]

/-- The ranges of the address map (R61). -/
theorem regionOf_iff (a : Word) :
    (regionOf a = .cartRom ↔ a.toNat < 0x8000) ∧ (regionOf a = .vram ↔ 0x8000 ≤ a.toNat ∧ a.toNat < 0xA000) ∧
    (regionOf a = .cartRam ↔ 0xA000 ≤ a.toNat ∧ a.toNat < 0xC000) ∧
    (regionOf a = .wram ↔ 0xC000 ≤ a.toNat ∧ a.toNat < 0xE000) ∧
    (regionOf a = .echo ↔ 0xE000 ≤ a.toNat ∧ a.toNat < 0xFE00) ∧
    (regionOf a = .oam ↔ 0xFE00 ≤ a.toNat ∧ a.toNat < 0xFEA0) ∧
    (regionOf a = .prohibited ↔ 0xFEA0 ≤ a.toNat ∧ a.toNat < 0xFF00) ∧
    (regionOf a = .io ↔ 0xFF00 ≤ a.toNat ∧ a.toNat < 0xFF80) ∧
    (regionOf a = .hram ↔ 0xFF80 ≤ a.toNat ∧ a.toNat < 0xFFFF) ∧ (regionOf a = .ie ↔ a.toNat = 0xFFFF) := by
  have := a.isLt
  unfold regionOf
  split_ifs <;> simp <;> omega

/-- "No instruction can read it" (R42): a read does not depend on the dot counter. -/
@[simp] theorem busRead_ticks (s : State) (n : Nat) (a : Word) : busRead { s with ticks := n } a = busRead s a := by
  unfold busRead
  cases regionOf a <;> simp only
  case io => cases ioRegAt a <;> rfl
  all_goals rfl

/-- The same of what a read leaves (R42). -/
theorem afterRead_withTicks (s : State) (n : Nat) (a : Word) :
    afterRead { s with ticks := n } a = { afterRead s a with ticks := n } := by
  unfold afterRead cartAfterRead
  cases regionOf a <;> simp only
  case cartRom => cases h : s.cart <;> simp only [h]
  case cartRam => cases h : s.cart <;> simp only [h]
  case io => cases ioRegAt a <;> rfl

/-- The same of a write (R42). -/
theorem busWrite_withTicks (s : State) (n : Nat) (a : Word) (v : Byte) :
    busWrite { s with ticks := n } a v = { busWrite s a v with ticks := n } := by
  unfold busWrite cartWrite
  cases regionOf a <;> simp only
  case cartRom => cases h : s.cart <;> simp only [h]
  case cartRam => cases h : s.cart <;> simp only [h]
  case oam => split <;> rfl
  case io => cases ioRegAt a <;> rfl
  all_goals rfl

/-- A write keeps every default instance (R66, R71, R72, R381). -/
theorem busWrite_keepsUnits (s : State) (a : Word) (v : Byte) : KeepsUnits s (busWrite s a v) := by
  unfold busWrite cartWrite memStore
  cases regionOf a <;> simp only
  case oam => cases s.dma.active <;> exact ⟨id, fun _ => id, id, fun r h => ⟨r, h⟩⟩
  case io =>
    cases ioRegAt a <;> first
      | exact ⟨id, fun _ => id, id, fun r h => ⟨r, h⟩⟩
      | exact ⟨id, fun w h => by simp [ioWrite, joypadWrite, h], id, fun r h => ⟨r, h⟩⟩
      | exact ⟨id, fun _ => id, fun h => by simp [ioWrite, audioWrite, h], fun r h => ⟨r, h⟩⟩
      | (obtain ⟨i, e⟩ := ioWrite_timer s _ v
         rw [e]
         exact ⟨id, fun _ => id, id, fun r h => ⟨_, congrArg (timerWrite · _ v) h⟩⟩)
  case cartRom =>
    cases hc : s.cart with
    | rom32k => exact .refl s
    | external own => exact ⟨fun h => absurd (hc.symm.trans h) (by simp), fun _ => id, id, fun r h => ⟨r, h⟩⟩
  case cartRam =>
    cases hc : s.cart with
    | rom32k => exact .refl s
    | external own => exact ⟨fun h => absurd (hc.symm.trans h) (by simp), fun _ => id, id, fun r h => ⟨r, h⟩⟩
  all_goals exact ⟨id, fun _ => id, id, fun r h => ⟨r, h⟩⟩

/-- A write keeps memory in canonical form (R63). -/
theorem busWrite_memoryInv (s : State) (a : Word) (v : Byte) (h : memoryInv s) : memoryInv (busWrite s a v) := by
  have := a.isLt
  unfold busWrite cartWrite memStore memoryInv
  cases regionOf a <;> simp only
  case cartRom => cases s.cart <;> exact h
  case cartRam => cases s.cart <;> exact h
  case oam => cases s.dma.active <;> first | exact h | exact Memory.wf_write _ _ (by omega) h
  case io =>
    cases ioRegAt a <;> exact h
  all_goals first | exact h | exact Memory.wf_write _ _ (by omega) h

/-! ### Time -/

/-- Every bit already pending stays pending (R364). -/
theorem requestMask_keep (ks : List Source) : ∀ v : Byte, v &&& requestMask v ks = v := by
  induction ks with
  | nil => exact fun v => BitVec.and_self
  | cons k ks ih =>
    intro v
    have h := ih (v ||| sourceMask k)
    rw [requestMask]
    apply BitVec.eq_of_getLsbD_eq
    intro i hi
    have := congrArg (fun w => BitVec.getLsbD w i) h
    simp only [BitVec.getLsbD_and, BitVec.getLsbD_or] at this ⊢
    cases hx : v.getLsbD i <;> simp_all

theorem requests_keep (ks : List Source) (s : State) : s.intf &&& (requests s ks).intf = s.intf :=
  requestMask_keep ks s.intf

/-- A tick of the generator leaves its ten programmable registers alone (R315). -/
structure SameRegs (p q : Ppu) : Prop where
  lcdc : q.lcdc = p.lcdc
  statEn : q.statEn = p.statEn
  scy : q.scy = p.scy
  scx : q.scx = p.scx
  lyc : q.lyc = p.lyc
  bgp : q.bgp = p.bgp
  obp0 : q.obp0 = p.obp0
  obp1 : q.obp1 = p.obp1
  wy : q.wy = p.wy
  wx : q.wx = p.wx

theorem SameRegs.refl (p : Ppu) : SameRegs p p := by constructor <;> rfl

theorem SameRegs.trans {p q r : Ppu} (h : SameRegs p q) (k : SameRegs q r) : SameRegs p r := by
  cases h; cases k; constructor <;> simp_all

theorem fetcherStep_regs (c : Params) (m : Memory) (p : Ppu) : SameRegs p (fetcherStep c m p) := by
  unfold fetcherStep
  cases p.fetcher.fstate <;> simp only
  case push => split <;> constructor <;> rfl
  all_goals constructor <;> rfl

theorem pushPixel_regs (p : Ppu) : SameRegs p (pushPixel p) := by
  unfold pushPixel showPixel
  split
  · split
    · split <;> constructor <;> rfl
    · constructor <;> rfl
  · constructor <;> rfl

theorem transferDot_regs (c : Params) (m : Memory) (p : Ppu) : SameRegs p (transferDot c m p) := by
  unfold transferDot
  split
  · exact (fetcherStep_regs c m p).trans (pushPixel_regs _)
  · exact pushPixel_regs _

/-- `PpuTick` writes none of the generator's programmable registers (R315). -/
theorem ppuTick_regs (c : Params) (m : Memory) (p : Ppu) : SameRegs p (ppuTick c m p) := by
  unfold ppuTick
  cases p.mode <;> simp only
  case oamScan => unfold tickOamScan; dsimp only; repeat' split
                  all_goals constructor <;> rfl
  case transfer =>
    have h : SameRegs p (countDot p) := by constructor <;> rfl
    refine h.trans ?_
    unfold tickTransfer
    simp only
    split
    · exact (transferDot_regs c m _).trans (by constructor <;> rfl)
    · exact transferDot_regs c m _
  case hblank => unfold tickHblank; simp only; repeat' split
                 all_goals constructor <;> rfl
  case vblank => unfold tickVblank vblankLine; repeat' split
                 all_goals constructor <;> rfl

/-- What a tick can have changed: the pending mask, which only gains bits, OAM while a transfer runs, the generator but
for its programmable registers, the timer's counters, the DMA unit, the dot counter and the own state
of the collaborators (R292). -/
structure Ticked (dots : Nat) (s t : State) : Prop where
  shape : ∃ intf mem ppu dma timer ticks cart joypad audio, t =
    { s with intf := intf, mem := mem, ppu := ppu, dma := dma, timer := timer, ticks := ticks, cart := cart,
             joypad := joypad, audio := audio }
  ticks : t.ticks = s.ticks + dots
  keeps : s.intf &&& t.intf = s.intf
  regs : SameRegs s.ppu t.ppu
  units : KeepsUnits s t
  timer : ∀ r r', s.timer = .reference r → t.timer = .reference r' → r'.tma = r.tma ∧ r'.tac = r.tac
  memOther : ∀ i, i < 0xFE00 ∨ 0xFEA0 ≤ i → t.mem.read i = s.mem.read i
  idle : s.dma.active = false → t.mem = s.mem ∧ t.dma = s.dma
  wf : memoryInv s → memoryInv t

theorem Ticked.refl (s : State) : Ticked 0 s s where
  shape := ⟨_, _, _, _, _, _, _, _, _, rfl⟩
  ticks := rfl
  keeps := BitVec.and_self
  regs := .refl _
  units := .refl s
  timer := fun r r' h h' => by rw [h] at h'; cases h'; exact ⟨rfl, rfl⟩
  memOther := fun _ _ => rfl
  idle := fun _ => ⟨rfl, rfl⟩
  wf := id

theorem Ticked.trans {m n : Nat} {s t u : State} (h : Ticked m s t) (k : Ticked n t u) : Ticked (m + n) s u where
  shape := by
    obtain ⟨_, _, _, _, _, _, _, _, _, rfl⟩ := h.shape
    obtain ⟨_, _, _, _, _, _, _, _, _, rfl⟩ := k.shape
    exact ⟨_, _, _, _, _, _, _, _, _, rfl⟩
  ticks := by rw [k.ticks, h.ticks, Nat.add_assoc]
  keeps := by
    have h1 := h.keeps
    have h2 := k.keeps
    have key : ∀ x y z : Byte, x &&& y = x → y &&& z = y → x &&& z = x := by
      intro x y z h1 h2
      rw [← h1, BitVec.and_assoc, h2]
    exact key _ _ _ h1 h2
  regs := h.regs.trans k.regs
  units := h.units.trans k.units
  timer := fun r r' hr hr' => by
    obtain ⟨q, hq⟩ := h.units.timer r hr
    have h1 := h.timer r q hr hq
    have k1 := k.timer q r' hq hr'
    exact ⟨k1.1.trans h1.1, k1.2.trans h1.2⟩
  memOther := fun i hi => (k.memOther i hi).trans (h.memOther i hi)
  idle := fun hd => by
    obtain ⟨h1, h2⟩ := h.idle hd
    obtain ⟨k1, k2⟩ := k.idle (by rw [h2]; exact hd)
    exact ⟨k1.trans h1, k2.trans h2⟩
  wf := fun hw => k.wf (h.wf hw)

/-- One dot (R290). -/
theorem advanceDot_ticked (s : State) : Ticked 1 s (advanceDot s) := by
  obtain ⟨i, hi⟩ := requests_frame (timerRequests s.timer)
    { s with ticks := s.ticks + 1, timer := timerTick s.timer }
  have k1 := requests_keep (timerRequests s.timer) { s with ticks := s.ticks + 1, timer := timerTick s.timer }
  have e1 : tickTimer { s with ticks := s.ticks + 1 } =
      { s with ticks := s.ticks + 1, timer := timerTick s.timer, intf := i } := by
    unfold tickTimer; exact hi
  obtain ⟨j, hj⟩ := requests_frame (ppuRequests s.params s.mem s.ppu)
    { s with ticks := s.ticks + 1, timer := timerTick s.timer, intf := i, ppu := ppuTick s.params s.mem s.ppu }
  have k2 := requests_keep (ppuRequests s.params s.mem s.ppu)
    { s with ticks := s.ticks + 1, timer := timerTick s.timer, intf := i, ppu := ppuTick s.params s.mem s.ppu }
  have e2 : advanceDot s =
      { s with ticks := s.ticks + 1, timer := timerTick s.timer, intf := j, ppu := ppuTick s.params s.mem s.ppu,
               audio := audioTick s.audio } := by
    unfold advanceDot
    rw [e1]
    unfold tickPpu
    exact congrArg tickAudio hj
  rw [hi] at k1
  rw [hj] at k2
  simp only at k1 k2
  rw [e2]
  exact {
    shape := ⟨_, _, _, _, _, _, _, _, _, rfl⟩
    ticks := rfl
    keeps := by
      have key : ∀ x y z : Byte, x &&& y = x → y &&& z = y → x &&& z = x := by
        intro x y z h1 h2
        rw [← h1, BitVec.and_assoc, h2]
      exact key _ _ _ k1 k2
    regs := ppuTick_regs _ _ _
    units := ⟨id, fun _ => id, fun h => congrArg audioTick h, fun r h => ⟨_, congrArg timerTick h⟩⟩
    timer := fun r r' h h' => by
      have : timerTick s.timer = .reference r' := h'
      rw [h] at this
      cases this
      exact ⟨rfl, rfl⟩
    memOther := fun _ _ => rfl
    idle := fun _ => ⟨rfl, rfl⟩
    wf := id }

/-- `DmaTick()` (R385). -/
theorem dmaTick_ticked (s : State) : Ticked 0 s (dmaTick s) := by
  unfold dmaTick
  split
  · rename_i hact
    split
    · exact { Ticked.refl s with
        units := ⟨id, fun _ => id, id, fun r h => ⟨r, h⟩⟩
        shape := ⟨_, _, _, _, _, _, _, _, _, rfl⟩
        idle := fun h => by rw [hact] at h; cases h }
    · obtain ⟨c, j, u, hc⟩ := afterRead_frame s (dmaSource s.dma)
      have ku := afterRead_keepsUnits s (dmaSource s.dma)
      rw [hc] at ku
      unfold dmaCopy oamStore
      rw [hc]
      split
      · rename_i hlt
        exact { Ticked.refl s with
          shape := ⟨_, _, _, _, _, _, _, _, _, rfl⟩
          units := ⟨ku.cart, ku.joypad, ku.audio, ku.timer⟩
          memOther := fun i hi => Memory.read_write_ne _ _ (by omega)
          idle := fun h => by rw [hact] at h; cases h
          wf := fun h => Memory.wf_write _ _ (by omega) h }
      · exact { Ticked.refl s with
          shape := ⟨_, _, _, _, _, _, _, _, _, rfl⟩
          units := ⟨ku.cart, ku.joypad, ku.audio, ku.timer⟩
          idle := fun h => by rw [hact] at h; cases h }
  · exact Ticked.refl s

/-- One CPU cycle (R290). -/
theorem advanceCycle_ticked (s : State) : Ticked 4 s (advanceCycle s) :=
  ((((advanceDot_ticked s).trans (advanceDot_ticked _)).trans (advanceDot_ticked _)).trans (advanceDot_ticked _)).trans
    (dmaTick_ticked _)

/-- `Advance(n)`: everything the passing of `n` CPU cycles can change (R290, R292). -/
theorem advance_ticked (n : Nat) : ∀ s, Ticked (4 * n) s (advance n s) := by
  induction n with
  | zero => exact fun s => Ticked.refl s
  | succ n ih =>
    intro s
    have := (advanceCycle_ticked s).trans (ih (advanceCycle s))
    rw [show 4 * (n + 1) = 4 + 4 * n by omega]
    exact this

@[simp] theorem advance_a (n : Nat) (s : State) : (advance n s).a = s.a := by
  obtain ⟨_, _, _, _, _, _, _, _, _, h⟩ := (advance_ticked n s).shape; rw [h]
@[simp] theorem advance_f (n : Nat) (s : State) : (advance n s).f = s.f := by
  obtain ⟨_, _, _, _, _, _, _, _, _, h⟩ := (advance_ticked n s).shape; rw [h]
@[simp] theorem advance_b (n : Nat) (s : State) : (advance n s).b = s.b := by
  obtain ⟨_, _, _, _, _, _, _, _, _, h⟩ := (advance_ticked n s).shape; rw [h]
@[simp] theorem advance_c (n : Nat) (s : State) : (advance n s).c = s.c := by
  obtain ⟨_, _, _, _, _, _, _, _, _, h⟩ := (advance_ticked n s).shape; rw [h]
@[simp] theorem advance_d (n : Nat) (s : State) : (advance n s).d = s.d := by
  obtain ⟨_, _, _, _, _, _, _, _, _, h⟩ := (advance_ticked n s).shape; rw [h]
@[simp] theorem advance_e (n : Nat) (s : State) : (advance n s).e = s.e := by
  obtain ⟨_, _, _, _, _, _, _, _, _, h⟩ := (advance_ticked n s).shape; rw [h]
@[simp] theorem advance_h (n : Nat) (s : State) : (advance n s).h = s.h := by
  obtain ⟨_, _, _, _, _, _, _, _, _, h⟩ := (advance_ticked n s).shape; rw [h]
@[simp] theorem advance_l (n : Nat) (s : State) : (advance n s).l = s.l := by
  obtain ⟨_, _, _, _, _, _, _, _, _, h⟩ := (advance_ticked n s).shape; rw [h]
@[simp] theorem advance_sp (n : Nat) (s : State) : (advance n s).sp = s.sp := by
  obtain ⟨_, _, _, _, _, _, _, _, _, h⟩ := (advance_ticked n s).shape; rw [h]
@[simp] theorem advance_pc (n : Nat) (s : State) : (advance n s).pc = s.pc := by
  obtain ⟨_, _, _, _, _, _, _, _, _, h⟩ := (advance_ticked n s).shape; rw [h]
@[simp] theorem advance_halted (n : Nat) (s : State) : (advance n s).halted = s.halted := by
  obtain ⟨_, _, _, _, _, _, _, _, _, h⟩ := (advance_ticked n s).shape; rw [h]
@[simp] theorem advance_fatal (n : Nat) (s : State) : (advance n s).fatal = s.fatal := by
  obtain ⟨_, _, _, _, _, _, _, _, _, h⟩ := (advance_ticked n s).shape; rw [h]
@[simp] theorem advance_fatalInfo (n : Nat) (s : State) : (advance n s).fatalInfo = s.fatalInfo := by
  obtain ⟨_, _, _, _, _, _, _, _, _, h⟩ := (advance_ticked n s).shape; rw [h]
@[simp] theorem advance_stopRequested (n : Nat) (s : State) : (advance n s).stopRequested = s.stopRequested := by
  obtain ⟨_, _, _, _, _, _, _, _, _, h⟩ := (advance_ticked n s).shape; rw [h]
@[simp] theorem advance_ime (n : Nat) (s : State) : (advance n s).ime = s.ime := by
  obtain ⟨_, _, _, _, _, _, _, _, _, h⟩ := (advance_ticked n s).shape; rw [h]
@[simp] theorem advance_imePending (n : Nat) (s : State) : (advance n s).imePending = s.imePending := by
  obtain ⟨_, _, _, _, _, _, _, _, _, h⟩ := (advance_ticked n s).shape; rw [h]
@[simp] theorem advance_ie (n : Nat) (s : State) : (advance n s).ie = s.ie := by
  obtain ⟨_, _, _, _, _, _, _, _, _, h⟩ := (advance_ticked n s).shape; rw [h]
@[simp] theorem advance_dmaReg (n : Nat) (s : State) : (advance n s).dmaReg = s.dmaReg := by
  obtain ⟨_, _, _, _, _, _, _, _, _, h⟩ := (advance_ticked n s).shape; rw [h]
@[simp] theorem advance_sb (n : Nat) (s : State) : (advance n s).sb = s.sb := by
  obtain ⟨_, _, _, _, _, _, _, _, _, h⟩ := (advance_ticked n s).shape; rw [h]
@[simp] theorem advance_sc (n : Nat) (s : State) : (advance n s).sc = s.sc := by
  obtain ⟨_, _, _, _, _, _, _, _, _, h⟩ := (advance_ticked n s).shape; rw [h]
@[simp] theorem advance_params (n : Nat) (s : State) : (advance n s).params = s.params := by
  obtain ⟨_, _, _, _, _, _, _, _, _, h⟩ := (advance_ticked n s).shape; rw [h]
@[simp] theorem advance_launch (n : Nat) (s : State) : (advance n s).launch = s.launch := by
  obtain ⟨_, _, _, _, _, _, _, _, _, h⟩ := (advance_ticked n s).shape; rw [h]
@[simp] theorem readReg_advance (n : Nat) (s : State) (r : Reg8) : readReg (advance n s) r = readReg s r := by
  cases r <;> simp [readReg]

/-! ### Time does not look at the CPU -/

/-- The state with the CPU engine's own registers and flags replaced by those of `u`. -/
def withCpu (s u : State) : State :=
  { s with
    a := u.a, f := u.f, b := u.b, c := u.c, d := u.d, e := u.e, h := u.h, l := u.l, sp := u.sp, pc := u.pc,
    halted := u.halted, fatal := u.fatal, fatalInfo := u.fatalInfo, stopRequested := u.stopRequested, ime := u.ime,
    imePending := u.imePending }

theorem ioRead_withCpu (s u : State) (r : IoReg) : ioRead (withCpu s u) r = ioRead s r := by cases r <;> rfl

/-- No bus address reaches a CPU register (R21): a read. -/
theorem busRead_withCpu (s u : State) (a : Word) : busRead (withCpu s u) a = busRead s a := by
  unfold busRead cartRead
  cases regionOf a <;> simp only
  case io => exact ioRead_withCpu s u _
  all_goals rfl

theorem afterRead_withCpu (s u : State) (a : Word) : afterRead (withCpu s u) a = withCpu (afterRead s a) u := by
  have e : (withCpu s u).cart = s.cart := rfl
  unfold afterRead cartAfterRead
  cases regionOf a <;> simp only [e] <;> first | rfl | (cases s.cart <;> rfl) | (cases ioRegAt a <;> rfl)

theorem requests_withCpu (ks : List Source) (s u : State) : requests (withCpu s u) ks = withCpu (requests s ks) u := rfl

/-- No bus address reaches a CPU register (R21): a write. -/
theorem busWrite_withCpu (s u : State) (a : Word) (v : Byte) :
    busWrite (withCpu s u) a v = withCpu (busWrite s a v) u := by
  have e : (withCpu s u).cart = s.cart := rfl
  have d : (withCpu s u).dma = s.dma := rfl
  unfold busWrite cartWrite
  cases regionOf a <;> simp only [e, d]
  case cartRom => cases s.cart <;> rfl
  case cartRam => cases s.cart <;> rfl
  case oam => cases s.dma.active <;> rfl
  case io => cases ioRegAt a <;> rfl
  all_goals rfl

theorem tickTimer_withCpu (s u : State) : tickTimer (withCpu s u) = withCpu (tickTimer s) u :=
  requests_withCpu (timerRequests s.timer) { s with timer := timerTick s.timer } u

theorem tickPpu_withCpu (s u : State) : tickPpu (withCpu s u) = withCpu (tickPpu s) u :=
  requests_withCpu (ppuRequests s.params s.mem s.ppu) { s with ppu := ppuTick s.params s.mem s.ppu } u

theorem advanceDot_withCpu (s u : State) : advanceDot (withCpu s u) = withCpu (advanceDot s) u := by
  show tickAudio (tickPpu (tickTimer (withCpu { s with ticks := s.ticks + 1 } u))) = _
  rw [tickTimer_withCpu, tickPpu_withCpu]
  rfl

theorem dmaTick_withCpu (s u : State) : dmaTick (withCpu s u) = withCpu (dmaTick s) u := by
  have d : (withCpu s u).dma = s.dma := rfl
  unfold dmaTick dmaCopy oamStore
  rw [d]
  cases s.dma.active
  · rfl
  · simp only [if_true]
    split
    · rfl
    · rw [busRead_withCpu, afterRead_withCpu]
      split <;> rfl

/-- Time passes alike whatever the CPU's registers hold (R291, R292). -/
theorem advance_withCpu (n : Nat) : ∀ s u, advance n (withCpu s u) = withCpu (advance n s) u := by
  induction n with
  | zero => exact fun _ _ => rfl
  | succ n ih =>
    intro s u
    simp only [advance, advanceCycle, advanceDot_withCpu, dmaTick_withCpu]
    exact ih _ u

/-! ### What an access leaves readable -/

/-- A byte that is no external collaborator's stays none (R6). -/
theorem externalByte_of_keepsUnits {s t : State} (k : KeepsUnits s t) {a : Word} (h : externalByte s a = false) :
    externalByte t a = false := by
  unfold externalByte at h ⊢
  cases hr : regionOf a <;> simp only [hr] at h ⊢
  case cartRom => simpa using k.cart (by simpa using h)
  case cartRam => simpa using k.cart (by simpa using h)
  case io =>
    cases hi : ioRegAt a <;> simp only [hi] at h ⊢
    case p1 =>
      cases hj : s.joypad with
      | snapshot v => rw [k.joypad v hj]
      | external own => rw [hj] at h; cases h
    case timer r =>
      cases ht : s.timer with
      | reference q => obtain ⟨q', hq⟩ := k.timer q ht; rw [hq]
      | external own => rw [ht] at h; cases h
    case audio b => simpa using k.audio (by simpa using h)

theorem steadyAddr_iff {s : State} {a : Word} :
    steadyAddr s a = true ↔ externalByte s a = false ∧ tickedByte s a = false := by
  simp [steadyAddr]

/-- Time leaves a byte that no tick changes one. -/
theorem steadyAddr_advance (n : Nat) (s : State) (a : Word) (h : steadyAddr s a = true) :
    steadyAddr (advance n s) a = true := by
  have T := advance_ticked n s
  obtain ⟨he, ht⟩ := steadyAddr_iff.1 h
  refine steadyAddr_iff.2 ⟨externalByte_of_keepsUnits T.units he, ?_⟩
  unfold tickedByte at ht ⊢
  cases hr : regionOf a <;> simp only [hr] at ht ⊢
  case oam => rw [(T.idle ht).2]; exact ht
  case io => exact ht

/-- What a read of an I/O register gives depends on: the register's own field (R64). -/
theorem ioRead_keepsUnits {s t : State} (k : KeepsUnits s t) {a : Word} (hr : regionOf a = .io)
    (he : externalByte s a = false) :
    (ioRegAt a = .p1 → ioRead t .p1 = ioRead s .p1) ∧
    (∀ b, ioRegAt a = .audio b → ioRead t (.audio b) = ioRead s (.audio b)) := by
  unfold externalByte at he
  simp only [hr] at he
  constructor
  · intro hi
    rw [hi] at he
    cases hj : s.joypad with
    | snapshot v => simp only [ioRead, hj, k.joypad v hj]
    | external own => simp only [hj] at he; cases he
  · intro b hi
    rw [hi] at he
    have ha : s.audio = .silent := by simpa using he
    simp only [ioRead, ha, k.audio ha]

/-- What a read at an address that is no external collaborator's depends on. -/
theorem busRead_congr {s t : State} {b : Word} (hx : externalByte s b = false) (k : KeepsUnits s t)
    (hp : t.params = s.params) (hmem : t.mem.read b.toNat = s.mem.read b.toNat ∨ regionOf b = .io ∨ regionOf b = .ie)
    (hdma : regionOf b = .oam → t.dma = s.dma) (hie : regionOf b = .ie → t.ie = s.ie)
    (hio : regionOf b = .io → ioRead t (ioRegAt b) = ioRead s (ioRegAt b)) : busRead t b = busRead s b := by
  unfold externalByte at hx
  unfold busRead cartRead
  cases hr : regionOf b <;> simp only [hr] at hx ⊢ <;> simp only [hr, reduceCtorEq, or_false] at hmem
  case cartRom =>
    have hc : s.cart = .rom32k := by simpa using hx
    rw [hc, k.cart hc]; simp only [hmem]
  case cartRam =>
    have hc : s.cart = .rom32k := by simpa using hx
    rw [hc, k.cart hc]; simp only [hmem]
  case oam => rw [hdma hr, hmem, hp]
  case io => exact hio hr
  case ie => exact hie hr
  case echo => rw [hp]
  case prohibited => rw [hp]
  all_goals exact hmem

theorem regionOf_bounds {a : Word} :
    (regionOf a = .oam → 0xFE00 ≤ a.toNat ∧ a.toNat < 0xFEA0) ∧
    (regionOf a ≠ .oam → a.toNat < 0xFE00 ∨ 0xFEA0 ≤ a.toNat) := by
  unfold regionOf
  repeat' split
  all_goals constructor <;> intro h <;> first | omega | cases h | exact absurd rfl h

/-- A byte that no tick changes reads the same after any time (R292). -/
theorem busRead_advance (n : Nat) (s : State) (a : Word) (h : steadyAddr s a = true) :
    busRead (advance n s) a = busRead s a := by
  have T := advance_ticked n s
  have R := T.regs
  obtain ⟨he, ht⟩ := steadyAddr_iff.1 h
  unfold tickedByte at ht
  refine busRead_congr he T.units (advance_params n s) ?_ ?_ (fun _ => advance_ie n s) ?_
  · by_cases ho : regionOf a = .oam
    · rw [ho] at ht; exact .inl (by rw [(T.idle ht).1])
    · exact .inl (T.memOther _ (regionOf_bounds.2 ho))
  · intro ho; rw [ho] at ht; exact (T.idle ht).2
  · intro hr
    have U := ioRead_keepsUnits T.units hr he
    simp only [hr] at ht
    unfold externalByte at he
    simp only [hr] at he
    cases hi : ioRegAt a <;> simp only [hi] at ht he ⊢
    case p1 => exact U.1 hi
    case audio b => exact U.2 b hi
    case timer r =>
      cases hq : s.timer with
      | external own => rw [hq] at he; cases he
      | reference q =>
        obtain ⟨q', hq'⟩ := T.units.timer q hq
        obtain ⟨h1, h2⟩ := T.timer q q' hq hq'
        cases r <;> simp only [ioRead, hq, hq', timerRead, refTimerRead, h1, h2] <;> exact absurd ht (by decide)
    all_goals
      first
        | (simp only [ioRead, advance_sb, advance_sc, advance_dmaReg, advance_params, R.lcdc, R.scy, R.scx, R.lyc, R.bgp,
            R.obp0, R.obp1, R.wy, R.wx]; done)
        | exact absurd ht (by decide)

end Sys2Proof.Machine
end

