-- ==== Sys2Proof/Laws/Access.lean ====
section
/-! SUPPORT. The timed accesses, the fetch and the stack operations: what each leaves of the CPU's own registers, field by
field, and which bytes of the bus it leaves as they were. -/

namespace Sys2Proof.Machine

/-! ### `memRead` -/

@[simp] theorem memRead_a (s : State) (a : Word) : (memRead s a).2.a = s.a := by simp [memRead]
@[simp] theorem memRead_f (s : State) (a : Word) : (memRead s a).2.f = s.f := by simp [memRead]
@[simp] theorem memRead_b (s : State) (a : Word) : (memRead s a).2.b = s.b := by simp [memRead]
@[simp] theorem memRead_c (s : State) (a : Word) : (memRead s a).2.c = s.c := by simp [memRead]
@[simp] theorem memRead_d (s : State) (a : Word) : (memRead s a).2.d = s.d := by simp [memRead]
@[simp] theorem memRead_e (s : State) (a : Word) : (memRead s a).2.e = s.e := by simp [memRead]
@[simp] theorem memRead_h (s : State) (a : Word) : (memRead s a).2.h = s.h := by simp [memRead]
@[simp] theorem memRead_l (s : State) (a : Word) : (memRead s a).2.l = s.l := by simp [memRead]
@[simp] theorem memRead_sp (s : State) (a : Word) : (memRead s a).2.sp = s.sp := by simp [memRead]
@[simp] theorem memRead_pc (s : State) (a : Word) : (memRead s a).2.pc = s.pc := by simp [memRead]
@[simp] theorem memRead_halted (s : State) (a : Word) : (memRead s a).2.halted = s.halted := by simp [memRead]
@[simp] theorem memRead_fatal (s : State) (a : Word) : (memRead s a).2.fatal = s.fatal := by simp [memRead]
@[simp] theorem memRead_fatalInfo (s : State) (a : Word) : (memRead s a).2.fatalInfo = s.fatalInfo := by simp [memRead]
@[simp] theorem memRead_stopRequested (s : State) (a : Word) : (memRead s a).2.stopRequested = s.stopRequested := by simp [memRead]
@[simp] theorem memRead_ime (s : State) (a : Word) : (memRead s a).2.ime = s.ime := by simp [memRead]
@[simp] theorem memRead_imePending (s : State) (a : Word) : (memRead s a).2.imePending = s.imePending := by simp [memRead]
@[simp] theorem memRead_params (s : State) (a : Word) : (memRead s a).2.params = s.params := by simp [memRead]
@[simp] theorem memRead_launch (s : State) (a : Word) : (memRead s a).2.launch = s.launch := by simp [memRead]
@[simp] theorem memRead_ie (s : State) (a : Word) : (memRead s a).2.ie = s.ie := by simp [memRead]
@[simp] theorem memRead_dmaReg (s : State) (a : Word) : (memRead s a).2.dmaReg = s.dmaReg := by simp [memRead]
@[simp] theorem memRead_sb (s : State) (a : Word) : (memRead s a).2.sb = s.sb := by simp [memRead]
@[simp] theorem memRead_sc (s : State) (a : Word) : (memRead s a).2.sc = s.sc := by simp [memRead]
@[simp] theorem readReg_memRead (s : State) (a : Word) (r : Reg8) : readReg (memRead s a).2 r = readReg s r := by
  cases r <;> simp [readReg]

@[simp] theorem memRead_value (s : State) (a : Word) : (memRead s a).1 = busRead s a := rfl

/-! ### `memWrite` -/

@[simp] theorem memWrite_a (s : State) (a : Word) (v : Byte) : (memWrite s a v).a = s.a := by simp [memWrite]
@[simp] theorem memWrite_f (s : State) (a : Word) (v : Byte) : (memWrite s a v).f = s.f := by simp [memWrite]
@[simp] theorem memWrite_b (s : State) (a : Word) (v : Byte) : (memWrite s a v).b = s.b := by simp [memWrite]
@[simp] theorem memWrite_c (s : State) (a : Word) (v : Byte) : (memWrite s a v).c = s.c := by simp [memWrite]
@[simp] theorem memWrite_d (s : State) (a : Word) (v : Byte) : (memWrite s a v).d = s.d := by simp [memWrite]
@[simp] theorem memWrite_e (s : State) (a : Word) (v : Byte) : (memWrite s a v).e = s.e := by simp [memWrite]
@[simp] theorem memWrite_h (s : State) (a : Word) (v : Byte) : (memWrite s a v).h = s.h := by simp [memWrite]
@[simp] theorem memWrite_l (s : State) (a : Word) (v : Byte) : (memWrite s a v).l = s.l := by simp [memWrite]
@[simp] theorem memWrite_sp (s : State) (a : Word) (v : Byte) : (memWrite s a v).sp = s.sp := by simp [memWrite]
@[simp] theorem memWrite_pc (s : State) (a : Word) (v : Byte) : (memWrite s a v).pc = s.pc := by simp [memWrite]
@[simp] theorem memWrite_halted (s : State) (a : Word) (v : Byte) : (memWrite s a v).halted = s.halted := by simp [memWrite]
@[simp] theorem memWrite_fatal (s : State) (a : Word) (v : Byte) : (memWrite s a v).fatal = s.fatal := by simp [memWrite]
@[simp] theorem memWrite_fatalInfo (s : State) (a : Word) (v : Byte) : (memWrite s a v).fatalInfo = s.fatalInfo := by simp [memWrite]
@[simp] theorem memWrite_stopRequested (s : State) (a : Word) (v : Byte) : (memWrite s a v).stopRequested = s.stopRequested := by simp [memWrite]
@[simp] theorem memWrite_ime (s : State) (a : Word) (v : Byte) : (memWrite s a v).ime = s.ime := by simp [memWrite]
@[simp] theorem memWrite_imePending (s : State) (a : Word) (v : Byte) : (memWrite s a v).imePending = s.imePending := by simp [memWrite]
@[simp] theorem memWrite_params (s : State) (a : Word) (v : Byte) : (memWrite s a v).params = s.params := by simp [memWrite]
@[simp] theorem memWrite_launch (s : State) (a : Word) (v : Byte) : (memWrite s a v).launch = s.launch := by simp [memWrite]
@[simp] theorem readReg_memWrite (s : State) (a : Word) (v : Byte) (r : Reg8) : readReg (memWrite s a v) r = readReg s r := by
  cases r <;> simp [readReg]

/-! ### `internal` -/

@[simp] theorem internal_a (s : State)  : (internal s).a = s.a := by simp [internal]
@[simp] theorem internal_f (s : State)  : (internal s).f = s.f := by simp [internal]
@[simp] theorem internal_b (s : State)  : (internal s).b = s.b := by simp [internal]
@[simp] theorem internal_c (s : State)  : (internal s).c = s.c := by simp [internal]
@[simp] theorem internal_d (s : State)  : (internal s).d = s.d := by simp [internal]
@[simp] theorem internal_e (s : State)  : (internal s).e = s.e := by simp [internal]
@[simp] theorem internal_h (s : State)  : (internal s).h = s.h := by simp [internal]
@[simp] theorem internal_l (s : State)  : (internal s).l = s.l := by simp [internal]
@[simp] theorem internal_sp (s : State)  : (internal s).sp = s.sp := by simp [internal]
@[simp] theorem internal_pc (s : State)  : (internal s).pc = s.pc := by simp [internal]
@[simp] theorem internal_halted (s : State)  : (internal s).halted = s.halted := by simp [internal]
@[simp] theorem internal_fatal (s : State)  : (internal s).fatal = s.fatal := by simp [internal]
@[simp] theorem internal_fatalInfo (s : State)  : (internal s).fatalInfo = s.fatalInfo := by simp [internal]
@[simp] theorem internal_stopRequested (s : State)  : (internal s).stopRequested = s.stopRequested := by simp [internal]
@[simp] theorem internal_ime (s : State)  : (internal s).ime = s.ime := by simp [internal]
@[simp] theorem internal_imePending (s : State)  : (internal s).imePending = s.imePending := by simp [internal]
@[simp] theorem internal_params (s : State)  : (internal s).params = s.params := by simp [internal]
@[simp] theorem internal_launch (s : State)  : (internal s).launch = s.launch := by simp [internal]
@[simp] theorem internal_ie (s : State)  : (internal s).ie = s.ie := by simp [internal]
@[simp] theorem internal_dmaReg (s : State)  : (internal s).dmaReg = s.dmaReg := by simp [internal]
@[simp] theorem internal_sb (s : State)  : (internal s).sb = s.sb := by simp [internal]
@[simp] theorem internal_sc (s : State)  : (internal s).sc = s.sc := by simp [internal]
@[simp] theorem readReg_internal (s : State)  (r : Reg8) : readReg (internal s) r = readReg s r := by
  cases r <;> simp [readReg]

/-! ### `internals` -/

@[simp] theorem internals_a (s : State) (n : Nat) : (internals n s).a = s.a := by simp [internals]
@[simp] theorem internals_f (s : State) (n : Nat) : (internals n s).f = s.f := by simp [internals]
@[simp] theorem internals_b (s : State) (n : Nat) : (internals n s).b = s.b := by simp [internals]
@[simp] theorem internals_c (s : State) (n : Nat) : (internals n s).c = s.c := by simp [internals]
@[simp] theorem internals_d (s : State) (n : Nat) : (internals n s).d = s.d := by simp [internals]
@[simp] theorem internals_e (s : State) (n : Nat) : (internals n s).e = s.e := by simp [internals]
@[simp] theorem internals_h (s : State) (n : Nat) : (internals n s).h = s.h := by simp [internals]
@[simp] theorem internals_l (s : State) (n : Nat) : (internals n s).l = s.l := by simp [internals]
@[simp] theorem internals_sp (s : State) (n : Nat) : (internals n s).sp = s.sp := by simp [internals]
@[simp] theorem internals_pc (s : State) (n : Nat) : (internals n s).pc = s.pc := by simp [internals]
@[simp] theorem internals_halted (s : State) (n : Nat) : (internals n s).halted = s.halted := by simp [internals]
@[simp] theorem internals_fatal (s : State) (n : Nat) : (internals n s).fatal = s.fatal := by simp [internals]
@[simp] theorem internals_fatalInfo (s : State) (n : Nat) : (internals n s).fatalInfo = s.fatalInfo := by simp [internals]
@[simp] theorem internals_stopRequested (s : State) (n : Nat) : (internals n s).stopRequested = s.stopRequested := by simp [internals]
@[simp] theorem internals_ime (s : State) (n : Nat) : (internals n s).ime = s.ime := by simp [internals]
@[simp] theorem internals_imePending (s : State) (n : Nat) : (internals n s).imePending = s.imePending := by simp [internals]
@[simp] theorem internals_params (s : State) (n : Nat) : (internals n s).params = s.params := by simp [internals]
@[simp] theorem internals_launch (s : State) (n : Nat) : (internals n s).launch = s.launch := by simp [internals]
@[simp] theorem internals_ie (s : State) (n : Nat) : (internals n s).ie = s.ie := by simp [internals]
@[simp] theorem internals_dmaReg (s : State) (n : Nat) : (internals n s).dmaReg = s.dmaReg := by simp [internals]
@[simp] theorem internals_sb (s : State) (n : Nat) : (internals n s).sb = s.sb := by simp [internals]
@[simp] theorem internals_sc (s : State) (n : Nat) : (internals n s).sc = s.sc := by simp [internals]
@[simp] theorem readReg_internals (s : State) (n : Nat) (r : Reg8) : readReg (internals n s) r = readReg s r := by
  cases r <;> simp [readReg]

/-! ### `fetch8` -/

@[simp] theorem fetch8_a (s : State)  : (fetch8 s).2.a = s.a := by simp [fetch8]
@[simp] theorem fetch8_f (s : State)  : (fetch8 s).2.f = s.f := by simp [fetch8]
@[simp] theorem fetch8_b (s : State)  : (fetch8 s).2.b = s.b := by simp [fetch8]
@[simp] theorem fetch8_c (s : State)  : (fetch8 s).2.c = s.c := by simp [fetch8]
@[simp] theorem fetch8_d (s : State)  : (fetch8 s).2.d = s.d := by simp [fetch8]
@[simp] theorem fetch8_e (s : State)  : (fetch8 s).2.e = s.e := by simp [fetch8]
@[simp] theorem fetch8_h (s : State)  : (fetch8 s).2.h = s.h := by simp [fetch8]
@[simp] theorem fetch8_l (s : State)  : (fetch8 s).2.l = s.l := by simp [fetch8]
@[simp] theorem fetch8_sp (s : State)  : (fetch8 s).2.sp = s.sp := by simp [fetch8]
@[simp] theorem fetch8_pc (s : State)  : (fetch8 s).2.pc = s.pc + 1 := by simp [fetch8]
@[simp] theorem fetch8_halted (s : State)  : (fetch8 s).2.halted = s.halted := by simp [fetch8]
@[simp] theorem fetch8_fatal (s : State)  : (fetch8 s).2.fatal = s.fatal := by simp [fetch8]
@[simp] theorem fetch8_fatalInfo (s : State)  : (fetch8 s).2.fatalInfo = s.fatalInfo := by simp [fetch8]
@[simp] theorem fetch8_stopRequested (s : State)  : (fetch8 s).2.stopRequested = s.stopRequested := by simp [fetch8]
@[simp] theorem fetch8_ime (s : State)  : (fetch8 s).2.ime = s.ime := by simp [fetch8]
@[simp] theorem fetch8_imePending (s : State)  : (fetch8 s).2.imePending = s.imePending := by simp [fetch8]
@[simp] theorem fetch8_params (s : State)  : (fetch8 s).2.params = s.params := by simp [fetch8]
@[simp] theorem fetch8_launch (s : State)  : (fetch8 s).2.launch = s.launch := by simp [fetch8]
@[simp] theorem fetch8_ie (s : State)  : (fetch8 s).2.ie = s.ie := by simp [fetch8]
@[simp] theorem fetch8_dmaReg (s : State)  : (fetch8 s).2.dmaReg = s.dmaReg := by simp [fetch8]
@[simp] theorem fetch8_sb (s : State)  : (fetch8 s).2.sb = s.sb := by simp [fetch8]
@[simp] theorem fetch8_sc (s : State)  : (fetch8 s).2.sc = s.sc := by simp [fetch8]
@[simp] theorem readReg_fetch8 (s : State)  (r : Reg8) : readReg (fetch8 s).2 r = readReg s r := by
  cases r <;> simp [readReg]

@[simp] theorem fetch8_value (s : State) : (fetch8 s).1 = busRead s s.pc := rfl

/-! ### `pushByte` -/

@[simp] theorem pushByte_a (s : State) (v : Byte) : (pushByte s v).a = s.a := by simp [pushByte]
@[simp] theorem pushByte_f (s : State) (v : Byte) : (pushByte s v).f = s.f := by simp [pushByte]
@[simp] theorem pushByte_b (s : State) (v : Byte) : (pushByte s v).b = s.b := by simp [pushByte]
@[simp] theorem pushByte_c (s : State) (v : Byte) : (pushByte s v).c = s.c := by simp [pushByte]
@[simp] theorem pushByte_d (s : State) (v : Byte) : (pushByte s v).d = s.d := by simp [pushByte]
@[simp] theorem pushByte_e (s : State) (v : Byte) : (pushByte s v).e = s.e := by simp [pushByte]
@[simp] theorem pushByte_h (s : State) (v : Byte) : (pushByte s v).h = s.h := by simp [pushByte]
@[simp] theorem pushByte_l (s : State) (v : Byte) : (pushByte s v).l = s.l := by simp [pushByte]
@[simp] theorem pushByte_sp (s : State) (v : Byte) : (pushByte s v).sp = s.sp - 1 := by simp [pushByte]
@[simp] theorem pushByte_pc (s : State) (v : Byte) : (pushByte s v).pc = s.pc := by simp [pushByte]
@[simp] theorem pushByte_halted (s : State) (v : Byte) : (pushByte s v).halted = s.halted := by simp [pushByte]
@[simp] theorem pushByte_fatal (s : State) (v : Byte) : (pushByte s v).fatal = s.fatal := by simp [pushByte]
@[simp] theorem pushByte_fatalInfo (s : State) (v : Byte) : (pushByte s v).fatalInfo = s.fatalInfo := by simp [pushByte]
@[simp] theorem pushByte_stopRequested (s : State) (v : Byte) : (pushByte s v).stopRequested = s.stopRequested := by simp [pushByte]
@[simp] theorem pushByte_ime (s : State) (v : Byte) : (pushByte s v).ime = s.ime := by simp [pushByte]
@[simp] theorem pushByte_imePending (s : State) (v : Byte) : (pushByte s v).imePending = s.imePending := by simp [pushByte]
@[simp] theorem pushByte_params (s : State) (v : Byte) : (pushByte s v).params = s.params := by simp [pushByte]
@[simp] theorem pushByte_launch (s : State) (v : Byte) : (pushByte s v).launch = s.launch := by simp [pushByte]
@[simp] theorem readReg_pushByte (s : State) (v : Byte) (r : Reg8) : readReg (pushByte s v) r = readReg s r := by
  cases r <;> simp [readReg]

/-! ### `push16` -/

@[simp] theorem push16_a (s : State) (v : Word) : (push16 s v).a = s.a := by simp [push16]
@[simp] theorem push16_f (s : State) (v : Word) : (push16 s v).f = s.f := by simp [push16]
@[simp] theorem push16_b (s : State) (v : Word) : (push16 s v).b = s.b := by simp [push16]
@[simp] theorem push16_c (s : State) (v : Word) : (push16 s v).c = s.c := by simp [push16]
@[simp] theorem push16_d (s : State) (v : Word) : (push16 s v).d = s.d := by simp [push16]
@[simp] theorem push16_e (s : State) (v : Word) : (push16 s v).e = s.e := by simp [push16]
@[simp] theorem push16_h (s : State) (v : Word) : (push16 s v).h = s.h := by simp [push16]
@[simp] theorem push16_l (s : State) (v : Word) : (push16 s v).l = s.l := by simp [push16]
@[simp] theorem push16_pc (s : State) (v : Word) : (push16 s v).pc = s.pc := by simp [push16]
@[simp] theorem push16_halted (s : State) (v : Word) : (push16 s v).halted = s.halted := by simp [push16]
@[simp] theorem push16_fatal (s : State) (v : Word) : (push16 s v).fatal = s.fatal := by simp [push16]
@[simp] theorem push16_fatalInfo (s : State) (v : Word) : (push16 s v).fatalInfo = s.fatalInfo := by simp [push16]
@[simp] theorem push16_stopRequested (s : State) (v : Word) : (push16 s v).stopRequested = s.stopRequested := by simp [push16]
@[simp] theorem push16_ime (s : State) (v : Word) : (push16 s v).ime = s.ime := by simp [push16]
@[simp] theorem push16_imePending (s : State) (v : Word) : (push16 s v).imePending = s.imePending := by simp [push16]
@[simp] theorem push16_params (s : State) (v : Word) : (push16 s v).params = s.params := by simp [push16]
@[simp] theorem push16_launch (s : State) (v : Word) : (push16 s v).launch = s.launch := by simp [push16]
@[simp] theorem readReg_push16 (s : State) (v : Word) (r : Reg8) : readReg (push16 s v) r = readReg s r := by
  cases r <;> simp [readReg]

/-! ### `popByte` -/

@[simp] theorem popByte_a (s : State)  : (popByte s).2.a = s.a := by simp [popByte]
@[simp] theorem popByte_f (s : State)  : (popByte s).2.f = s.f := by simp [popByte]
@[simp] theorem popByte_b (s : State)  : (popByte s).2.b = s.b := by simp [popByte]
@[simp] theorem popByte_c (s : State)  : (popByte s).2.c = s.c := by simp [popByte]
@[simp] theorem popByte_d (s : State)  : (popByte s).2.d = s.d := by simp [popByte]
@[simp] theorem popByte_e (s : State)  : (popByte s).2.e = s.e := by simp [popByte]
@[simp] theorem popByte_h (s : State)  : (popByte s).2.h = s.h := by simp [popByte]
@[simp] theorem popByte_l (s : State)  : (popByte s).2.l = s.l := by simp [popByte]
@[simp] theorem popByte_sp (s : State)  : (popByte s).2.sp = s.sp + 1 := by simp [popByte]
@[simp] theorem popByte_pc (s : State)  : (popByte s).2.pc = s.pc := by simp [popByte]
@[simp] theorem popByte_halted (s : State)  : (popByte s).2.halted = s.halted := by simp [popByte]
@[simp] theorem popByte_fatal (s : State)  : (popByte s).2.fatal = s.fatal := by simp [popByte]
@[simp] theorem popByte_fatalInfo (s : State)  : (popByte s).2.fatalInfo = s.fatalInfo := by simp [popByte]
@[simp] theorem popByte_stopRequested (s : State)  : (popByte s).2.stopRequested = s.stopRequested := by simp [popByte]
@[simp] theorem popByte_ime (s : State)  : (popByte s).2.ime = s.ime := by simp [popByte]
@[simp] theorem popByte_imePending (s : State)  : (popByte s).2.imePending = s.imePending := by simp [popByte]
@[simp] theorem popByte_params (s : State)  : (popByte s).2.params = s.params := by simp [popByte]
@[simp] theorem popByte_launch (s : State)  : (popByte s).2.launch = s.launch := by simp [popByte]
@[simp] theorem popByte_ie (s : State)  : (popByte s).2.ie = s.ie := by simp [popByte]
@[simp] theorem popByte_dmaReg (s : State)  : (popByte s).2.dmaReg = s.dmaReg := by simp [popByte]
@[simp] theorem popByte_sb (s : State)  : (popByte s).2.sb = s.sb := by simp [popByte]
@[simp] theorem popByte_sc (s : State)  : (popByte s).2.sc = s.sc := by simp [popByte]
@[simp] theorem readReg_popByte (s : State)  (r : Reg8) : readReg (popByte s).2 r = readReg s r := by
  cases r <;> simp [readReg]

@[simp] theorem popByte_value (s : State) : (popByte s).1 = busRead s s.sp := rfl

/-! ### `pop16` -/

@[simp] theorem pop16_a (s : State)  : (pop16 s).2.a = s.a := by simp [pop16]
@[simp] theorem pop16_f (s : State)  : (pop16 s).2.f = s.f := by simp [pop16]
@[simp] theorem pop16_b (s : State)  : (pop16 s).2.b = s.b := by simp [pop16]
@[simp] theorem pop16_c (s : State)  : (pop16 s).2.c = s.c := by simp [pop16]
@[simp] theorem pop16_d (s : State)  : (pop16 s).2.d = s.d := by simp [pop16]
@[simp] theorem pop16_e (s : State)  : (pop16 s).2.e = s.e := by simp [pop16]
@[simp] theorem pop16_h (s : State)  : (pop16 s).2.h = s.h := by simp [pop16]
@[simp] theorem pop16_l (s : State)  : (pop16 s).2.l = s.l := by simp [pop16]
@[simp] theorem pop16_pc (s : State)  : (pop16 s).2.pc = s.pc := by simp [pop16]
@[simp] theorem pop16_halted (s : State)  : (pop16 s).2.halted = s.halted := by simp [pop16]
@[simp] theorem pop16_fatal (s : State)  : (pop16 s).2.fatal = s.fatal := by simp [pop16]
@[simp] theorem pop16_fatalInfo (s : State)  : (pop16 s).2.fatalInfo = s.fatalInfo := by simp [pop16]
@[simp] theorem pop16_stopRequested (s : State)  : (pop16 s).2.stopRequested = s.stopRequested := by simp [pop16]
@[simp] theorem pop16_ime (s : State)  : (pop16 s).2.ime = s.ime := by simp [pop16]
@[simp] theorem pop16_imePending (s : State)  : (pop16 s).2.imePending = s.imePending := by simp [pop16]
@[simp] theorem pop16_params (s : State)  : (pop16 s).2.params = s.params := by simp [pop16]
@[simp] theorem pop16_launch (s : State)  : (pop16 s).2.launch = s.launch := by simp [pop16]
@[simp] theorem pop16_ie (s : State)  : (pop16 s).2.ie = s.ie := by simp [pop16]
@[simp] theorem pop16_dmaReg (s : State)  : (pop16 s).2.dmaReg = s.dmaReg := by simp [pop16]
@[simp] theorem pop16_sb (s : State)  : (pop16 s).2.sb = s.sb := by simp [pop16]
@[simp] theorem pop16_sc (s : State)  : (pop16 s).2.sc = s.sc := by simp [pop16]
@[simp] theorem readReg_pop16 (s : State)  (r : Reg8) : readReg (pop16 s).2 r = readReg s r := by
  cases r <;> simp [readReg]

@[simp] theorem push16_sp (s : State) (v : Word) : (push16 s v).sp = s.sp - 2 := by
  simp only [push16, pushByte_sp]
  bv_omega

@[simp] theorem pop16_sp (s : State) : (pop16 s).2.sp = s.sp + 2 := by
  simp only [pop16, popByte_sp]
  bv_omega

/-! ### Only what lies outside the CPU matters to the bus -/

/-- Two states that agree outside the CPU differ by their CPU registers only. -/
theorem eq_withCpu_of_outside {s t : State} (h : outside s = outside t) : s = withCpu t s :=
  (rfl : s = withCpu (outside s) s).trans ((congrArg (withCpu · s) h).trans rfl)

theorem outside_withCpu (s u : State) : outside (withCpu s u) = outside s := rfl

theorem busRead_of_outside {s t : State} (h : outside s = outside t) (a : Word) : busRead s a = busRead t a := by
  rw [eq_withCpu_of_outside h, busRead_withCpu]

theorem afterRead_of_outside {s t : State} (h : outside s = outside t) (a : Word) :
    outside (afterRead s a) = outside (afterRead t a) := by
  rw [eq_withCpu_of_outside h, afterRead_withCpu, outside_withCpu]

theorem busWrite_of_outside {s t : State} (h : outside s = outside t) (a : Word) (v : Byte) :
    outside (busWrite s a v) = outside (busWrite t a v) := by
  rw [eq_withCpu_of_outside h, busWrite_withCpu, outside_withCpu]

theorem advance_of_outside {s t : State} (n : Nat) (h : outside s = outside t) :
    outside (advance n s) = outside (advance n t) := by
  rw [eq_withCpu_of_outside h, advance_withCpu, outside_withCpu]

/-- A cycle that reads. -/
theorem readCycle_of_outside {s t : State} (h : outside s = outside t) (a : Word) :
    outside (readCycle s a) = outside (readCycle t a) := advance_of_outside 1 (afterRead_of_outside h a)

/-- A cycle that writes. -/
theorem writeCycle_of_outside {s t : State} (h : outside s = outside t) (a : Word) (v : Byte) :
    outside (writeCycle s a v) = outside (writeCycle t a v) := advance_of_outside 1 (busWrite_of_outside h a v)

theorem outside_setSp (s : State) (x : Word) : outside { s with sp := x } = outside s := by cases s; rfl

/-- What `Push16` does outside the CPU (R153). -/
theorem push16_outside (s : State) (v : Word) : outside (push16 s v) = outside (pushCycles s v) := by
  have h : outside (pushByte s (hiByte v)) = outside (writeCycle s (s.sp - 1) (hiByte v)) :=
    writeCycle_of_outside (outside_setSp s _) _ _
  have e : (pushByte s (hiByte v)).sp - 1 = s.sp - 2 := by rw [pushByte_sp]; bv_omega
  unfold push16
  generalize pushByte s (hiByte v) = t at h e
  unfold pushByte memWrite
  rw [e]
  exact writeCycle_of_outside ((outside_setSp t _).trans h) _ _

/-- What a pop of a byte does outside the CPU (R154). -/
theorem popByte_outside (s : State) : outside (popByte s).2 = outside (readCycle s s.sp) := by
  have e : (popByte s).2 = { readCycle s s.sp with sp := (readCycle s s.sp).sp + 1 } := by
    simp only [popByte, memRead]
  rw [e]
  exact outside_setSp (readCycle s s.sp) _

/-- What `Pop16` does outside the CPU (R154). -/
theorem pop16_outside (s : State) : outside (pop16 s).2 = outside (popCycles s) := by
  have h := popByte_outside s
  have e : (popByte s).2.sp = s.sp + 1 := popByte_sp s
  show outside (popByte (popByte s).2).2 = _
  rw [popByte_outside, e]
  exact readCycle_of_outside h _

/-- The word `Pop16` answers (R154). -/
theorem pop16_value (s : State) : (pop16 s).1 = poppedWord s := by
  have h := popByte_outside s
  have e : (popByte s).2.sp = s.sp + 1 := popByte_sp s
  show wordOf (popByte (popByte s).2).1 (popByte s).1 = _
  rw [popByte_value, popByte_value, e, busRead_of_outside h]

/-! ### Which bytes an access leaves -/

theorem steadyAddr_of_outside {s t : State} (h : outside s = outside t) (a : Word) : steadyAddr s a = steadyAddr t a := by
  rw [eq_withCpu_of_outside h]; rfl

theorem storable_of_outside {s t : State} (h : outside s = outside t) (a : Word) : storable s a = storable t a := by
  have d : s.dma = t.dma := (congrArg State.dma h : (outside s).dma = (outside t).dma)
  unfold storable
  rw [d]

/-- A byte that can be stored and read back is changed by no tick. -/
theorem steadyAddr_of_storable {s : State} {a : Word} (h : storable s a = true) : steadyAddr s a = true := by
  unfold storable at h
  unfold steadyAddr externalByte tickedByte
  cases hr : regionOf a <;> simp_all

theorem steadyAddr_afterRead (s : State) (a b : Word) (h : steadyAddr s b = true) :
    steadyAddr (afterRead s a) b = true := by
  obtain ⟨he, ht⟩ := steadyAddr_iff.1 h
  refine steadyAddr_iff.2 ⟨externalByte_of_keepsUnits (afterRead_keepsUnits s a) he, ?_⟩
  unfold tickedByte at ht ⊢
  simpa only [afterRead_dma] using ht

/-- A read leaves every byte that is no external collaborator's (R76). -/
theorem busRead_afterRead' (s : State) (a b : Word) (he : externalByte s b = false) :
    busRead (afterRead s a) b = busRead s b := by
  have k := afterRead_keepsUnits s a
  refine busRead_congr he k (afterRead_params s a) (.inl (by rw [afterRead_mem])) (fun _ => afterRead_dma s a)
    (fun _ => afterRead_ie s a) fun hr => ?_
  have U := ioRead_keepsUnits k hr he
  cases hi : ioRegAt b
  case p1 => exact U.1 hi
  case audio c => exact U.2 c hi
  all_goals simp [ioRead]

theorem busRead_afterRead (s : State) (a b : Word) (h : steadyAddr s b = true) :
    busRead (afterRead s a) b = busRead s b := busRead_afterRead' s a b (steadyAddr_iff.1 h).1

/-- A cycle that reads leaves every byte that no tick changes. -/
theorem busRead_readCycle (s : State) (a b : Word) (h : steadyAddr s b = true) :
    busRead (readCycle s a) b = busRead s b := by
  rw [readCycle, busRead_advance 1 _ b (steadyAddr_afterRead s a b h), busRead_afterRead s a b h]

theorem steadyAddr_readCycle (s : State) (a b : Word) (h : steadyAddr s b = true) :
    steadyAddr (readCycle s a) b = true := steadyAddr_advance 1 _ b (steadyAddr_afterRead s a b h)

/-- What an I/O register reads depends on that register alone: a write of another leaves it, but that an external
collaborator's registers are its own, and that an external timer may request TIMER (R64, R380). -/
theorem ioRead_ioWrite_ne (s : State) (q r : IoReg) (v : Byte) (h : r ≠ q)
    (hp : r = .p1 → ∃ w, s.joypad = .snapshot w) (hu : ∀ a, r = .audio a → s.audio = .silent)
    (ht : ∀ x, r = .timer x → ∃ t, s.timer = .reference t) (hi : r = .intf → ∃ t, s.timer = .reference t) :
    ioRead (ioWrite s q v) r = ioRead s r := by
  cases q
  case timer x =>
    obtain ⟨i, e⟩ := ioWrite_timer s x v
    cases r <;> try (rw [e]; rfl)
    case intf =>
      obtain ⟨t, h'⟩ := hi rfl
      simp [ioWrite, ioRead, timerWriteRequests, h', requests, requestMask]
    case timer y =>
      obtain ⟨t, h'⟩ := ht y rfl
      rw [e]
      cases x <;> cases y <;> first | exact absurd rfl h | simp [ioRead, h', timerWrite, timerRead, refTimerRead, refTimerWrite]
  case audio x =>
    cases r <;> try rfl
    case audio y => simp [ioRead, ioWrite, hu y rfl, audioWrite]
  case p1 =>
    cases r <;> first | rfl | exact absurd rfl h
  all_goals cases r <;> first | rfl | exact absurd rfl h

theorem ioMap_injective : ∀ c ∈ ioMap, ∀ d ∈ ioMap, c.2 = d.2 → c.1 = d.1 := by decide

theorem sparseRead_mem {β : Type} {d v : β} {m : List (Nat × β)} {a : Nat} (h : sparseRead d m a = v) (hv : v ≠ d) :
    (a, v) ∈ m := by
  induction m with
  | nil => exact absurd h.symm hv
  | cons c m ih =>
    obtain ⟨k, w⟩ := c
    simp only [sparseRead] at h
    split at h
    · subst h; rename_i hk; subst hk; exact List.mem_cons_self
    · exact List.mem_cons_of_mem _ (ih h)

/-- Two different addresses that name one I/O register name no register (R64). -/
theorem ioRegAt_eq {a b : Word} (h : ioRegAt a = ioRegAt b) (hn : a ≠ b) : ioRegAt a = .unmapped := by
  unfold ioRegAt at h ⊢
  have audioOff : ∀ x y, sparseRead IoReg.unmapped ioMap x ≠ .audio y := by
    intro x y e
    have := sparseRead_mem e (by simp)
    simp [ioMap] at this
  by_cases ha : 0xFF10 ≤ a.toNat ∧ a.toNat ≤ 0xFF3F
  · rw [if_pos ha] at h
    by_cases hb : 0xFF10 ≤ b.toNat ∧ b.toNat ≤ 0xFF3F
    · rw [if_pos hb] at h; cases h; exact absurd rfl hn
    · rw [if_neg hb] at h; exact absurd h.symm (audioOff _ _)
  · rw [if_neg ha] at h ⊢
    by_cases hb : 0xFF10 ≤ b.toNat ∧ b.toNat ≤ 0xFF3F
    · rw [if_pos hb] at h; exact absurd h (audioOff _ _)
    · rw [if_neg hb] at h
      by_cases hu : sparseRead IoReg.unmapped ioMap a.toNat = .unmapped
      · exact hu
      · have m1 := sparseRead_mem rfl hu
        have m2 := sparseRead_mem h.symm hu
        exact absurd (BitVec.eq_of_toNat_eq (ioMap_injective _ m1 _ m2 rfl)) hn

theorem ioRegAt_none : ∀ n ∈ 0xFF03 :: List.range' 0xFF08 7 ++ List.range' 0xFF4C 52,
    ioRegAt (BitVec.ofNat 16 n) = .unmapped := by decide

/-- The I/O addresses with no register (R64). -/
theorem ioRegAt_unmapped {a : Word} (h : a.toNat = 0xFF03 ∨ 0xFF08 ≤ a.toNat ∧ a.toNat ≤ 0xFF0E ∨
    0xFF4C ≤ a.toNat ∧ a.toNat ≤ 0xFF7F) : ioRegAt a = .unmapped := by
  have := ioRegAt_none a.toNat (by simp only [List.cons_append, List.mem_cons, List.mem_append, List.mem_range'_1]; omega)
  simpa using this
theorem sparseRead_none {β : Type} {d : β} {m : List (Nat × β)} {a : Nat} (h : ∀ c ∈ m, c.1 ≠ a) :
    sparseRead d m a = d := by
  induction m with
  | nil => rfl
  | cons c m ih =>
    obtain ⟨k, w⟩ := c
    rw [sparseRead, if_neg (h (k, w) List.mem_cons_self)]
    exact ih fun c hc => h c (List.mem_cons_of_mem _ hc)

/-- The only address whose write starts a transfer (R64, R384). -/
theorem busWrite_dma (s : State) (a : Word) (v : Byte) (h : a ≠ 0xFF46#16) : (busWrite s a v).dma = s.dma := by
  unfold busWrite cartWrite memStore
  cases hr : regionOf a <;> simp only
  case cartRom => cases s.cart <;> rfl
  case cartRam => cases s.cart <;> rfl
  case oam => cases s.dma.active <;> rfl
  case io =>
    cases hi : ioRegAt a <;> try rfl
    exfalso
    unfold ioRegAt at hi
    split at hi
    · cases hi
    · have := sparseRead_mem hi (by decide)
      simp only [ioMap, List.mem_cons, Prod.mk.injEq, reduceCtorEq, and_false, and_true, false_or, or_false,
        List.not_mem_nil] at this
      exact h (BitVec.eq_of_toNat_eq this)

/-- A write leaves the byte of memory at every other address (R63, R67). -/
theorem busWrite_mem_ne (s : State) {a : Word} {i : Nat} (v : Byte) (h : i ≠ a.toNat) :
    (busWrite s a v).mem.read i = s.mem.read i := by
  unfold busWrite cartWrite memStore
  cases regionOf a <;> simp only
  case cartRom => cases s.cart <;> rfl
  case cartRam => cases s.cart <;> rfl
  case oam => cases s.dma.active <;> first | rfl | exact Memory.read_write_ne _ _ h
  case io => cases ioRegAt a <;> rfl
  all_goals first | rfl | exact Memory.read_write_ne _ _ h

/-- Only a write at 0xFFFF changes IE (R365). -/
theorem busWrite_ie_ne (s : State) (a : Word) (v : Byte) (h : regionOf a ≠ .ie) : (busWrite s a v).ie = s.ie := by
  unfold busWrite cartWrite memStore
  cases hr : regionOf a <;> simp only
  case cartRom => cases s.cart <;> rfl
  case cartRam => cases s.cart <;> rfl
  case oam => cases s.dma.active <;> rfl
  case io => cases ioRegAt a <;> rfl
  case ie => exact absurd hr h

theorem regionOf_ie {a : Word} (h : regionOf a = .ie) : a = 0xFFFF#16 := by
  have := a.isLt
  unfold regionOf at h
  repeat' split at h
  all_goals first | exact absurd h (by decide) | exact BitVec.eq_of_toNat_eq (by simp only [BitVec.toNat_ofNat]; omega)

theorem ioRegAt_intf {b : Word} (h : ioRegAt b = .intf) : b = 0xFF0F#16 := by
  unfold ioRegAt at h
  split at h
  · cases h
  · have := sparseRead_mem h (by simp)
    simp only [ioMap, List.mem_cons, Prod.mk.injEq, reduceCtorEq, and_false, and_true, false_or, or_false,
      List.not_mem_nil] at this
    exact BitVec.eq_of_toNat_eq this

/-- A write leaves the I/O register at every other address that is no external collaborator's (R64). -/
theorem ioRead_busWrite_ne (s : State) (a b : Word) (v : Byte) (h : b ≠ a) (hr : regionOf b = .io)
    (he : externalByte s b = false) (hf : ioRegAt b = .intf → ∃ t, s.timer = .reference t) :
    ioRead (busWrite s a v) (ioRegAt b) = ioRead s (ioRegAt b) := by
  unfold busWrite cartWrite memStore
  cases regionOf a <;> simp only
  case cartRom => cases s.cart <;> cases ioRegAt b <;> rfl
  case cartRam => cases s.cart <;> cases ioRegAt b <;> rfl
  case oam => cases s.dma.active <;> cases ioRegAt b <;> rfl
  case io =>
    by_cases hq : ioRegAt b = ioRegAt a
    · have hu := ioRegAt_eq hq h
      rw [← hq, hu]; rfl
    · unfold externalByte at he
      simp only [hr] at he
      refine ioRead_ioWrite_ne s _ _ v hq ?_ ?_ ?_ hf
      · intro e
        simp only [e] at he
        cases hj : s.joypad with
        | snapshot w => exact ⟨w, rfl⟩
        | external own => simp [hj] at he
      · intro c e
        simpa [e] using he
      · intro x e
        simp only [e] at he
        cases hj : s.timer with
        | reference w => exact ⟨w, rfl⟩
        | external own => simp [hj] at he
  all_goals cases ioRegAt b <;> rfl

/-- A write leaves every byte at another address that is no external collaborator's, OAM unless it starts a transfer, and
IF unless an external timer requests TIMER. -/
theorem busRead_busWrite_ne' (s : State) (a b : Word) (v : Byte) (hn : b ≠ a) (he : externalByte s b = false)
    (ho : regionOf b = .oam → a ≠ 0xFF46#16) (hf : ioRegAt b = .intf → ∃ t, s.timer = .reference t) :
    busRead (busWrite s a v) b = busRead s b :=
  busRead_congr he (busWrite_keepsUnits s a v) (busWrite_params s a v)
    (.inl (busWrite_mem_ne s v fun e => hn (BitVec.eq_of_toNat_eq e)))
    (fun h => busWrite_dma s a v (ho h))
    (fun h => busWrite_ie_ne s a v fun h' => hn ((regionOf_ie h).trans (regionOf_ie h').symm))
    (fun hr => ioRead_busWrite_ne s a b v hn hr he hf)

/-- A write of the CPU leaves every byte at another address that no tick changes, OAM unless it starts a transfer. -/
theorem busRead_busWrite_ne (s : State) (a b : Word) (v : Byte) (hn : b ≠ a) (hs : steadyAddr s b = true)
    (ho : regionOf b = .oam → a ≠ 0xFF46#16) : busRead (busWrite s a v) b = busRead s b := by
  obtain ⟨he, ht⟩ := steadyAddr_iff.1 hs
  refine busRead_busWrite_ne' s a b v hn he ho fun hi => ?_
  have hr : regionOf b = .io := by rw [ioRegAt_intf hi]; decide
  unfold tickedByte at ht
  simp only [hr, hi] at ht
  exact absurd ht (by decide)

theorem steadyAddr_busWrite (s : State) (a b : Word) (v : Byte) (hs : steadyAddr s b = true)
    (ho : regionOf b = .oam → a ≠ 0xFF46#16) : steadyAddr (busWrite s a v) b = true := by
  obtain ⟨he, ht⟩ := steadyAddr_iff.1 hs
  refine steadyAddr_iff.2 ⟨externalByte_of_keepsUnits (busWrite_keepsUnits s a v) he, ?_⟩
  unfold tickedByte at ht ⊢
  cases hr : regionOf b <;> simp only [hr] at ht ho ⊢ <;> try exact ht
  rw [busWrite_dma s a v (ho trivial)]; exact ht

/-- A byte stored in RAM reads back (R67). -/
theorem busRead_busWrite_self (s : State) (a : Word) (v : Byte) (h : storable s a = true) :
    busRead (busWrite s a v) a = v := by
  unfold storable at h
  unfold busRead busWrite memStore
  cases hr : regionOf a <;> simp only [hr] at h ⊢ <;> first | exact absurd h (by decide) | skip
  case oam =>
    have : s.dma.active = false := by simpa using h
    simp [this]
  all_goals exact Memory.read_write_self ..

/-- A cycle that writes leaves every byte it does not store to and no tick changes. -/
theorem busRead_writeCycle_ne (s : State) (a b : Word) (v : Byte) (hn : b ≠ a) (hs : steadyAddr s b = true)
    (ho : regionOf b = .oam → a ≠ 0xFF46#16) : busRead (writeCycle s a v) b = busRead s b := by
  rw [writeCycle, busRead_advance 1 _ b (steadyAddr_busWrite s a b v hs ho), busRead_busWrite_ne s a b v hn hs ho]

theorem steadyAddr_writeCycle (s : State) (a b : Word) (v : Byte) (hs : steadyAddr s b = true)
    (ho : regionOf b = .oam → a ≠ 0xFF46#16) : steadyAddr (writeCycle s a v) b = true :=
  steadyAddr_advance 1 _ b (steadyAddr_busWrite s a b v hs ho)

/-- Storing in RAM does not start a transfer. -/
theorem storable_ne_trigger {s : State} {a : Word} (h : storable s a = true) : a ≠ 0xFF46#16 := by
  rintro rfl
  have : regionOf 0xFF46#16 = .io := by decide
  unfold storable at h
  rw [this] at h
  cases h

/-- A cycle that writes leaves the byte it stored in RAM. -/
theorem busRead_writeCycle_self (s : State) (a : Word) (v : Byte) (h : storable s a = true) :
    busRead (writeCycle s a v) a = v := by
  rw [writeCycle, busRead_advance 1 _ a
    (steadyAddr_busWrite s a a v (steadyAddr_of_storable h) fun _ => storable_ne_trigger h), busRead_busWrite_self s a v h]

end Sys2Proof.Machine
end

