-- ==== Sys2Proof/Laws/Picture.lean ====
section
/-! SUPPORT. What a dot does to the picture generator: each mode's tick, and that R321's list holds after it. -/

namespace Sys2Proof.Machine

/-! ### Pixel-transfer -/

/-- The fetcher and the FIFO inside dot `k` of pixel-transfer, after the fetcher's turn and `pops` pops. -/
structure FetcherAt (k pops : Nat) (p : Ppu) : Prop where
  state : p.fetcher.fstate = fetchStateAt (k / 2)
  len : p.fetcher.fifo.length + pops = 8 * (k / 10)
  fetchX : p.fetcher.fetchX = 8 * ((k / 2 + 4) / 5)
  fifoX : p.fetcher.fifoX = 8 * (k / 10)
  lineX : p.fetcher.lineX = pops
  low : p.fetcher.pushedX ≤ p.fetcher.lineX
  high : p.fetcher.lineX ≤ p.fetcher.pushedX + 7

theorem popsAt_le (k : Nat) : popsAt k ≤ 8 * (k / 10) := by unfold popsAt; split <;> omega

theorem popsAt_bound {k n : Nat} (h : popsAt k ≤ n) : k ≤ 20 + 10 * (n / 8) + 9 := by
  unfold popsAt at h; split at h <;> omega

/-- Eight colours are composed. -/
@[simp] theorem composeTile_length (c : Params) (p : Ppu) : (composeTile c p).length = 8 := by simp [composeTile]

/-- One step of the fetcher, from the `n`th state to the next (R333, R343, R347). -/
theorem fetcherStep_at {n pops : Nat} {c : Params} {m : Memory} {p : Ppu} (h : FetcherAt (2 * n + 1) pops p)
    (hp : pops = popsAt (2 * n + 1)) : FetcherAt (2 * n + 2) pops (fetcherStep c m p) := by
  obtain ⟨hs, hl, hf, hx, hlx, hlo, hhi⟩ := h
  have e : (2 * n + 1) / 2 = n := by omega
  have e' : (2 * n + 2) / 2 = n + 1 := by omega
  rw [e] at hs hf
  have hn : n % 5 = 0 ∨ n % 5 = 1 ∨ n % 5 = 2 ∨ n % 5 = 3 ∨ n % 5 = 4 := by omega
  rcases hn with hn | hn | hn | hn | hn
  · have hs' : p.fetcher.fstate = .tile := by rw [hs, fetchStateAt, if_pos hn]
    refine ⟨?_, ?_, ?_, ?_, ?_, ?_, ?_⟩ <;>
      simp only [fetcherStep, hs', setFetchState, fetchTile, e', fetchStateAt] <;> first | omega | skip
    rw [if_neg (by omega), if_pos (by omega)]
  · have hs' : p.fetcher.fstate = .dataLo := by rw [hs, fetchStateAt, if_neg (by omega), if_pos hn]
    refine ⟨?_, ?_, ?_, ?_, ?_, ?_, ?_⟩ <;>
      simp only [fetcherStep, hs', setFetchState, fetchLow, e', fetchStateAt] <;> first | omega | skip
    rw [if_neg (by omega), if_neg (by omega), if_pos (by omega)]
  · have hs' : p.fetcher.fstate = .dataHi := by
      rw [hs, fetchStateAt, if_neg (by omega), if_neg (by omega), if_pos hn]
    refine ⟨?_, ?_, ?_, ?_, ?_, ?_, ?_⟩ <;>
      simp only [fetcherStep, hs', setFetchState, fetchHigh, e', fetchStateAt] <;> first | omega | skip
    rw [if_neg (by omega), if_neg (by omega), if_neg (by omega), if_pos (by omega)]
  · have hs' : p.fetcher.fstate = .idle := by
      rw [hs, fetchStateAt, if_neg (by omega), if_neg (by omega), if_neg (by omega), if_pos hn]
    refine ⟨?_, ?_, ?_, ?_, ?_, ?_, ?_⟩ <;>
      simp only [fetcherStep, hs', setFetchState, e', fetchStateAt] <;> first | omega | skip
    rw [if_neg (by omega), if_neg (by omega), if_neg (by omega), if_neg (by omega)]
  · have hs' : p.fetcher.fstate = .push := by
      rw [hs, fetchStateAt, if_neg (by omega), if_neg (by omega), if_neg (by omega), if_neg (by omega)]
    have hc : canPush p = true := by
      have : p.fetcher.fifo.length ≤ 8 := by
        rw [hp] at hl
        unfold popsAt at hl
        split at hl <;> omega
      simpa [canPush] using this
    refine ⟨?_, ?_, ?_, ?_, ?_, ?_, ?_⟩ <;>
      simp only [fetcherStep, hs', hc, if_true, pushTile, e', fetchStateAt, List.length_append, composeTile_length] <;>
      first | omega | skip
    rw [if_pos (by omega)]

/-- The pixel push of dot `k + 1` (R344, R347). -/
theorem pushPixel_at {k : Nat} {p : Ppu} (h : FetcherAt (k + 1) (popsAt k) p) :
    FetcherAt (k + 1) (popsAt (k + 1)) (pushPixel p) := by
  obtain ⟨hs, hl, hf, hx, hlx, hlo, hhi⟩ := h
  by_cases h8 : 8 < p.fetcher.fifo.length
  · have hk : popsAt (k + 1) = popsAt k + 1 := by
      unfold popsAt at hl ⊢; split at hl <;> split <;> omega
    cases hq : p.fetcher.fifo with
    | nil => rw [hq] at h8; simp at h8
    | cons c rest =>
      have hr : p.fetcher.fifo.length = rest.length + 1 := by rw [hq]; rfl
      have e : pushPixel p = showPixel c rest p := by unfold pushPixel; rw [hq]; simp only; rw [← hq, if_pos h8]
      rw [e]
      unfold showPixel
      split
      · refine ⟨hs, ?_, hf, hx, ?_, ?_, ?_⟩ <;> simp only <;> omega
      · have : scrollFine p < 8 := Nat.mod_lt _ (by omega)
        refine ⟨hs, ?_, hf, hx, ?_, ?_, ?_⟩ <;> simp only <;> omega
  · have hk : popsAt (k + 1) = popsAt k := by
      unfold popsAt at hl ⊢; split at hl <;> split <;> omega
    have e : pushPixel p = p := by
      unfold pushPixel
      cases hq : p.fetcher.fifo with
      | nil => rfl
      | cons c rest => simp only; rw [← hq, if_neg h8]
    rw [e, hk]
    exact ⟨hs, hl, hf, hx, hlx, hlo, hhi⟩

/-- A dot of pixel-transfer, from the counters of one dot to those of the next (R306). -/
theorem transferDot_at {k : Nat} (c : Params) (m : Memory) {p : Ppu} (hd : p.dot = 80 + k + 1) (h : FetcherAt k (popsAt k) p) :
    FetcherAt (k + 1) (popsAt (k + 1)) (transferDot c m p) := by
  apply pushPixel_at
  split
  · obtain ⟨n, rfl⟩ : ∃ n, k = 2 * n + 1 := ⟨k / 2, by omega⟩
    exact fetcherStep_at h rfl
  · obtain ⟨hs, hl, hf, hx, hlx, hlo, hhi⟩ := h
    have : (k + 1) / 2 = k / 2 := by omega
    have : (k + 1) / 10 = k / 10 := by omega
    refine ⟨by rw [hs]; congr 1; omega, ?_, ?_, ?_, hlx, hlo, hhi⟩ <;> omega

/-- Pixel-transfer's fetcher and push leave the mode, the counters, the line and the line's sprites alone. -/
structure SameLine (p q : Ppu) : Prop where
  mode : q.mode = p.mode
  dot : q.dot = p.dot
  ly : q.ly = p.ly
  lycEq : q.lycEq = p.lycEq
  frame : q.frame = p.frame
  frameReady : q.frameReady = p.frameReady
  windowLine : q.windowLine = p.windowLine
  lineSprites : q.lineSprites = p.lineSprites

theorem SameLine.refl (p : Ppu) : SameLine p p := by constructor <;> rfl

theorem SameLine.trans {p q r : Ppu} (h : SameLine p q) (k : SameLine q r) : SameLine p r := by
  cases h; cases k; constructor <;> simp_all

theorem fetcherStep_line (c : Params) (m : Memory) (p : Ppu) : SameLine p (fetcherStep c m p) := by
  unfold fetcherStep
  cases p.fetcher.fstate <;> simp only
  case push => split <;> constructor <;> rfl
  all_goals constructor <;> rfl

theorem pushPixel_line (p : Ppu) : SameLine p (pushPixel p) := by
  unfold pushPixel showPixel
  split
  · split
    · split <;> constructor <;> rfl
    · constructor <;> rfl
  · constructor <;> rfl

theorem transferDot_line (c : Params) (m : Memory) (p : Ppu) : SameLine p (transferDot c m p) := by
  unfold transferDot
  split
  · exact (fetcherStep_line c m p).trans (pushPixel_line _)
  · exact pushPixel_line _

theorem fetcherStep_framebuffer (c : Params) (m : Memory) (p : Ppu) : (fetcherStep c m p).framebuffer = p.framebuffer := by
  unfold fetcherStep
  cases p.fetcher.fstate <;> simp only
  case push => split <;> rfl
  all_goals rfl

theorem fetcherStep_pushedX (c : Params) (m : Memory) (p : Ppu) : (fetcherStep c m p).fetcher.pushedX = p.fetcher.pushedX := by
  unfold fetcherStep
  cases p.fetcher.fstate <;> simp only
  case push => split <;> rfl
  all_goals rfl

theorem fetcherStep_fetched (c : Params) (m : Memory) (p : Ppu) (h : p.fetcher.fetched.length ≤ 3) :
    (fetcherStep c m p).fetcher.fetched.length ≤ 3 := by
  unfold fetcherStep
  cases p.fetcher.fstate <;> simp only [setFetchState, fetchTile, fetchLow, fetchHigh, pushTile]
  case push => split <;> exact h
  case tile =>
    split
    · exact List.length_take_le _ _
    · exact Nat.zero_le _
  all_goals exact h

theorem pushPixel_fetched (p : Ppu) : (pushPixel p).fetcher.fetched = p.fetcher.fetched := by
  unfold pushPixel showPixel
  split
  · split
    · split <;> rfl
    · rfl
  · rfl

theorem pushPixel_framebuffer {p : Ppu} (hx : p.fetcher.pushedX ≤ 159) (hy : p.ly.toNat ≤ 143)
    (h : framebufferWf p.framebuffer = true) : framebufferWf (pushPixel p).framebuffer = true := by
  unfold pushPixel showPixel
  split
  · split
    · split
      · exact framebufferWf_write _ _ (by omega) h
      · exact h
    · exact h
  · exact h

theorem pushPixel_pushedX (p : Ppu) : (pushPixel p).fetcher.pushedX ≤ p.fetcher.pushedX + 1 := by
  unfold pushPixel showPixel
  split
  · split
    · split
      · exact Nat.le_refl _
      · exact Nat.le_succ _
    · exact Nat.le_succ _
  · exact Nat.le_succ _

theorem transferDot_pushedX (c : Params) (m : Memory) (p : Ppu) :
    (transferDot c m p).fetcher.pushedX ≤ p.fetcher.pushedX + 1 := by
  unfold transferDot
  refine (pushPixel_pushedX _).trans ?_
  split
  · rw [fetcherStep_pushedX]
  · exact Nat.le_refl _

theorem transferDot_fetched (c : Params) (m : Memory) (p : Ppu) (h : p.fetcher.fetched.length ≤ 3) :
    (transferDot c m p).fetcher.fetched.length ≤ 3 := by
  unfold transferDot
  rw [pushPixel_fetched]
  split
  · exact fetcherStep_fetched c m p h
  · exact h

theorem transferDot_framebuffer (c : Params) (m : Memory) {p : Ppu} (hx : p.fetcher.pushedX ≤ 159) (hy : p.ly.toNat ≤ 143)
    (h : framebufferWf p.framebuffer = true) : framebufferWf (transferDot c m p).framebuffer = true := by
  unfold transferDot
  split
  · refine pushPixel_framebuffer ?_ ?_ ?_
    · rw [fetcherStep_pushedX]; exact hx
    · rw [(fetcherStep_line c m p).ly]; exact hy
    · rw [fetcherStep_framebuffer]; exact h
  · exact pushPixel_framebuffer hx hy h

/-! ### OAM-scan -/

theorem insertSprite_length (e : Sprite) (l : List Sprite) : (insertSprite e l).length = l.length + 1 := by
  induction l with
  | nil => rfl
  | cons x xs ih => simp only [insertSprite]; split <;> simp [ih]

theorem scanSlot_length (m : Memory) (p : Ppu) (kept : List Sprite) (i : Nat) (h : kept.length ≤ 10) :
    (scanSlot m p kept i).length ≤ 10 := by
  unfold scanSlot
  split
  · exact h
  · split
    · rw [insertSprite_length]; omega
    · exact h

/-- The scan reads the line and the sprite height, not the dot counter (R303). -/
theorem lineScan_countDot (m : Memory) (p : Ppu) : lineScan m (countDot p) = lineScan m p := by
  have e : scanSlot m (countDot p) = scanSlot m p := rfl
  unfold lineScan
  rw [e]

/-- The scan keeps at most ten sprites (R303). -/
theorem lineScan_length (m : Memory) (p : Ppu) : (lineScan m p).length ≤ 10 := by
  have key : ∀ (l : List Nat) (kept : List Sprite), kept.length ≤ 10 → (l.foldl (scanSlot m p) kept).length ≤ 10 := by
    intro l
    induction l with
    | nil => exact fun _ h => h
    | cons i l ih => exact fun kept h => ih _ (scanSlot_length m p kept i h)
  exact key _ _ (Nat.zero_le _)

/-! ### The list of R321 -/

theorem pictureInv_tickOamScan (m : Memory) {p : Ppu} (hm : p.mode = .oamScan) (h : pictureInv p) :
    pictureInv (tickOamScan m (countDot p)) := by
  obtain ⟨h1, h2, h3, h4, h5, h6, h7, h8, h9, h10, h11⟩ := h
  have hd := h4 hm
  have hf := h6 (by rw [hm]; decide)
  have hv : ¬ 144 ≤ p.ly.toNat := by rw [← h3, hm]; decide
  have key : ∀ q : Ppu, q.mode = .oamScan → q.dot = p.dot + 1 → q.ly = p.ly → q.fetcher = p.fetcher →
      q.windowLine = p.windowLine → q.framebuffer = p.framebuffer → q.lineSprites.length ≤ 10 →
      pictureInv (if 80 ≤ q.dot then { q with mode := .transfer, fetcher := freshFetcher } else q) := by
    intro q a1 a2 a3 a4 a5 a6 a7
    by_cases hq : 80 ≤ q.dot
    · rw [if_pos hq]
      have hq' : q.dot = 80 := by omega
      unfold pictureInv
      simp only [hq', a3, a5, a6, a7]
      refine ⟨by omega, h2, by simp [hv], by simp, ?_, by simp, trivial, by simp [freshFetcher], h9, h10, h11⟩
      intro _
      simp [transferInv, freshFetcher, fetchStateAt, popsAt]
    · rw [if_neg hq]
      unfold pictureInv
      rw [a1, a2, a3, a4, a5, a6]
      exact ⟨by omega, h2, by simp [hv], fun _ => by omega, by simp, fun _ => hf, a7, h8, h9, h10, h11⟩
  unfold tickOamScan
  simp only
  by_cases hd1 : (countDot p).dot = 1
  · rw [if_pos hd1]
    have hl := lineScan_length m (countDot p)
    generalize lineScan m (countDot p) = kept at hl ⊢
    exact key { countDot p with lineSprites := kept } hm rfl rfl rfl rfl rfl hl
  · rw [if_neg hd1]
    exact key (countDot p) hm rfl rfl rfl rfl rfl h7

theorem pictureInv_tickTransfer (c : Params) (m : Memory) {p : Ppu} (hm : p.mode = .transfer) (h : pictureInv p) :
    pictureInv (tickTransfer c m (countDot p)) := by
  obtain ⟨h1, h2, h3, h4, h5, h6, h7, h8, h9, h10, h11⟩ := h
  obtain ⟨t1, t2, t3, t4, t5, t6, t7, t8, t9⟩ := h5 hm
  have hv : ¬ 144 ≤ p.ly.toNat := by rw [← h3, hm]; decide
  obtain ⟨k, hk⟩ : ∃ k, p.dot = 80 + k := ⟨p.dot - 80, by omega⟩
  have hk' : p.dot - 80 = k := by omega
  rw [hk'] at t2 t3 t4 t5 t6
  have hb : k ≤ 229 := by
    have := popsAt_bound (k := k) (n := 166) (by omega)
    omega
  have at' := transferDot_at (k := k) c m (p := countDot p) (by simp [countDot, hk]) ⟨t2, t3, t4, t5, t6, t7, t8⟩
  have ln := transferDot_line c m (countDot p)
  have px := transferDot_pushedX c m (countDot p)
  have fe := transferDot_fetched c m (countDot p) h8
  have fb := transferDot_framebuffer c m (p := countDot p) t9 (by simp only [countDot]; omega) h11
  obtain ⟨l1, l2, l3, -, -, -, l7, l8⟩ := ln
  obtain ⟨s1, s2, s3, s4, s5, s6, s7⟩ := at'
  change _ = p.mode at l1
  change _ = p.dot + 1 at l2
  change _ = p.ly at l3
  change _ = p.windowLine at l7
  change _ = p.lineSprites at l8
  change _ ≤ p.fetcher.pushedX + 1 at px
  unfold tickTransfer
  simp only
  generalize hq : transferDot c m (countDot p) = q at *
  by_cases h160 : 160 ≤ q.fetcher.pushedX
  · rw [if_pos h160]
    unfold pictureInv enterHblank
    simp only [l2, l3, l7, l8]
    exact ⟨by omega, h2, by simp [hv], by simp, by simp, by simp, h7, fe, h9, h10, fb⟩
  · rw [if_neg h160]
    have e : q.dot - 80 = k + 1 := by omega
    unfold pictureInv transferInv
    rw [e, l1, l2, l3, l7, l8, hm]
    exact ⟨by omega, h2, by simp [hv], by simp, fun _ => ⟨by omega, s1, s2, s3, s4, s5, s6, s7, by omega⟩, by simp, h7, fe,
      h9, h10, fb⟩

theorem pictureInv_tickHblank {p : Ppu} (hm : p.mode = .hblank) (h : pictureInv p) :
    pictureInv (tickHblank (countDot p)) := by
  obtain ⟨h1, h2, h3, h4, h5, h6, h7, h8, h9, h10, h11⟩ := h
  have hf := h6 (by rw [hm]; decide)
  have hv : ¬ 144 ≤ p.ly.toNat := by rw [← h3, hm]; decide
  unfold tickHblank
  by_cases hd : 456 ≤ (countDot p).dot
  · rw [if_pos hd]
    have hl : (incrementLine (countDot p)).ly.toNat = p.ly.toNat + 1 := by
      show (p.ly + 1#8).toNat = _
      rw [BitVec.toNat_add]; exact Nat.mod_eq_of_lt (by simp; omega)
    have hw : (incrementLine (countDot p)).windowLine ≤ p.ly.toNat + 1 := by
      show (if windowLineShown (countDot p) = true then p.windowLine + 1 else p.windowLine) ≤ _
      split <;> omega
    have e1 : (incrementLine (countDot p)).fetcher = p.fetcher := rfl
    have e2 : (incrementLine (countDot p)).lineSprites = p.lineSprites := rfl
    have e3 : (incrementLine (countDot p)).framebuffer = p.framebuffer := rfl
    generalize incrementLine (countDot p) = q at *
    simp only
    by_cases hq : 144 ≤ q.ly.toNat
    · rw [if_pos hq]
      unfold pictureInv enterVblank
      simp only [e1, e2, e3]
      exact ⟨by omega, by omega, by simp [hq], by simp, by simp, fun _ => hf, h7, h8, by omega, by omega, h11⟩
    · rw [if_neg hq]
      unfold pictureInv enterOamScan
      simp only [e1, e2, e3]
      exact ⟨by omega, by omega, by simp [hq], by simp, by simp, fun _ => hf, h7, h8, by omega, by omega, h11⟩
  · rw [if_neg hd]
    simp only [countDot] at hd ⊢
    unfold pictureInv
    simp only [hm]
    exact ⟨by omega, h2, by simp [hv], by simp, by simp, fun _ => hf, h7, h8, h9, h10, h11⟩

theorem pictureInv_tickVblank {p : Ppu} (hm : p.mode = .vblank) (h : pictureInv p) :
    pictureInv (tickVblank (countDot p)) := by
  obtain ⟨h1, h2, h3, h4, h5, h6, h7, h8, h9, h10, h11⟩ := h
  have hf := h6 (by rw [hm]; decide)
  have hv : 144 ≤ p.ly.toNat := h3.mp hm
  have hl : (p.ly + 1).toNat = p.ly.toNat + 1 := by
    rw [BitVec.toNat_add]; exact Nat.mod_eq_of_lt (by simp; omega)
  unfold tickVblank
  by_cases hd : 456 ≤ (countDot p).dot
  · rw [if_pos hd]
    unfold vblankLine
    by_cases hy : 154 ≤ (countDot p).ly.toNat + 1
    · rw [if_pos hy]
      simp only [countDot, compareLine]
      unfold pictureInv
      simp only
      exact ⟨by omega, by decide, by decide, by simp, by simp, fun _ => hf, h7, h8, by omega, by omega, h11⟩
    · rw [if_neg hy]
      simp only [countDot, compareLine] at hy ⊢
      unfold pictureInv
      simp only [hl, hm]
      exact ⟨by omega, by omega, by simp; omega, by simp, by simp, fun _ => hf, h7, h8, h9, by omega, h11⟩
  · rw [if_neg hd]
    simp only [countDot] at hd ⊢
    unfold pictureInv
    simp only [hm]
    exact ⟨by omega, h2, by simp [hv], by simp, by simp, fun _ => hf, h7, h8, h9, h10, h11⟩

/-- R321's list holds after every tick of the generator. -/
theorem pictureInv_ppuTick (c : Params) (m : Memory) {p : Ppu} (h : pictureInv p) : pictureInv (ppuTick c m p) := by
  unfold ppuTick
  cases hm : p.mode
  · exact pictureInv_tickOamScan m hm h
  · exact pictureInv_tickTransfer c m hm h
  · exact pictureInv_tickHblank hm h
  · exact pictureInv_tickVblank hm h

end Sys2Proof.Machine
end

