-- ==== Sys2Proof/Laws/Invariant.lean ====
section
/-! SUPPORT. Each shared operation keeps the machine's invariants. -/

namespace Sys2Proof.Machine

/-- The invariants speak of F, memory, the DMA unit, the generator and the fatal record only. -/
theorem machineInv_congr {s t : State} (hf : t.f = s.f) (hm : t.mem = s.mem) (hd : t.dma = s.dma) (hp : t.ppu = s.ppu)
    (h1 : t.fatal = s.fatal) (h2 : t.fatalInfo = s.fatalInfo) : machineInv t ↔ machineInv s := by
  unfold machineInv flagsInv memoryInv fatalInv
  rw [hf, hm, hd, hp, h1, h2]

@[simp] theorem machineInv_pc (s : State) (v : Word) : machineInv { s with pc := v } ↔ machineInv s :=
  machineInv_congr rfl rfl rfl rfl rfl rfl
@[simp] theorem machineInv_sp (s : State) (v : Word) : machineInv { s with sp := v } ↔ machineInv s :=
  machineInv_congr rfl rfl rfl rfl rfl rfl
@[simp] theorem machineInv_a (s : State) (v : Byte) : machineInv { s with a := v } ↔ machineInv s :=
  machineInv_congr rfl rfl rfl rfl rfl rfl
@[simp] theorem machineInv_halted (s : State) (v : Bool) : machineInv { s with halted := v } ↔ machineInv s :=
  machineInv_congr rfl rfl rfl rfl rfl rfl
@[simp] theorem machineInv_imePending (s : State) (v : Bool) : machineInv { s with imePending := v } ↔ machineInv s :=
  machineInv_congr rfl rfl rfl rfl rfl rfl
@[simp] theorem machineInv_ime2 (s : State) (v w : Bool) :
    machineInv { s with ime := v, imePending := w } ↔ machineInv s :=
  machineInv_congr rfl rfl rfl rfl rfl rfl
@[simp] theorem machineInv_pc_ime (s : State) (v : Word) (w : Bool) :
    machineInv { s with pc := v, ime := w } ↔ machineInv s :=
  machineInv_congr rfl rfl rfl rfl rfl rfl
@[simp] theorem machineInv_writeReg (s : State) (r : Reg8) (v : Byte) : machineInv (writeReg s r v) ↔ machineInv s := by
  cases r <;> exact machineInv_congr rfl rfl rfl rfl rfl rfl
@[simp] theorem machineInv_setBc (s : State) (v : Word) : machineInv (setBc s v) ↔ machineInv s :=
  machineInv_congr rfl rfl rfl rfl rfl rfl
@[simp] theorem machineInv_setDe (s : State) (v : Word) : machineInv (setDe s v) ↔ machineInv s :=
  machineInv_congr rfl rfl rfl rfl rfl rfl
@[simp] theorem machineInv_setHl (s : State) (v : Word) : machineInv (setHl s v) ↔ machineInv s :=
  machineInv_congr rfl rfl rfl rfl rfl rfl
@[simp] theorem machineInv_writePair (s : State) (rr : RegPair) (v : Word) :
    machineInv (writePair s rr v) ↔ machineInv s := by
  cases rr <;> exact machineInv_congr rfl rfl rfl rfl rfl rfl

/-- Every write of F masks the low nibble (R23). -/
theorem machineInv_writeF {s : State} (v : Byte) (h : machineInv s) : machineInv (writeF s v) := by
  obtain ⟨-, h⟩ := h
  refine ⟨?_, h⟩
  show v &&& 0xF0#8 &&& 0x0F#8 = 0x00#8
  rw [BitVec.and_assoc, show (0xF0#8 &&& 0x0F#8) = 0#8 from rfl]; simp

theorem machineInv_setFlags {s : State} (z n h c : Option Bool) (hs : machineInv s) : machineInv (setFlags s z n h c) :=
  machineInv_writeF _ hs

theorem machineInv_writeStackPair {s : State} (rr : StackPair) (v : Word) (h : machineInv s) :
    machineInv (writeStackPair s rr v) := by
  cases rr
  case af => exact machineInv_writeF _ ((machineInv_a s _).2 h)
  all_goals exact (machineInv_congr rfl rfl rfl rfl rfl rfl).2 h

theorem machineInv_afterRead {s : State} (a : Word) (h : machineInv s) : machineInv (afterRead s a) := by
  obtain ⟨_, _, _, e⟩ := afterRead_frame s a
  rw [e]; exact (machineInv_congr rfl rfl rfl rfl rfl rfl).2 h

theorem machineInv_requests {s : State} (ks : List Source) (h : machineInv s) : machineInv (requests s ks) := by
  obtain ⟨i, e⟩ := requests_frame ks s
  rw [e]; exact (machineInv_congr rfl rfl rfl rfl rfl rfl).2 h

theorem machineInv_memStore {s : State} {a : Nat} (v : Byte) (ha : a < 65536) (h : machineInv s) :
    machineInv (memStore s a v) := by
  obtain ⟨h1, h2, h3⟩ := h
  exact ⟨h1, Memory.wf_write _ _ ha h2, h3⟩

theorem machineInv_ioWrite {s : State} (r : IoReg) (v : Byte) (h : machineInv s) : machineInv (ioWrite s r v) := by
  cases r
  case stat =>
    obtain ⟨h1, h2, h3, h4, h5, h6⟩ := h
    refine ⟨h1, h2, h3, ?_, h5, h6⟩
    show v &&& 0x78#8 &&& 0x87#8 = 0x00#8
    rw [BitVec.and_assoc, show (0x78#8 &&& 0x87#8) = 0#8 from rfl]; simp
  case dma =>
    obtain ⟨h1, h2, h3, h4, h5, h6⟩ := h
    exact ⟨h1, h2, ⟨Nat.zero_le _, Nat.le_refl _, fun _ => by show 0 < 160; omega⟩, h4, h5, h6⟩
  case timer x =>
    obtain ⟨i, e⟩ := ioWrite_timer s x v
    rw [e]; exact (machineInv_congr rfl rfl rfl rfl rfl rfl).2 h
  all_goals exact h

theorem machineInv_busWrite {s : State} (a : Word) (v : Byte) (h : machineInv s) : machineInv (busWrite s a v) := by
  unfold busWrite cartWrite
  have ha : a.toNat < 65536 := a.isLt
  cases regionOf a <;> simp only
  case cartRom => cases s.cart <;> exact h
  case cartRam => cases s.cart <;> exact h
  case oam => split
              · exact h
              · exact machineInv_memStore v ha h
  case io => exact machineInv_ioWrite _ v h
  case echo => exact h
  case prohibited => exact h
  case ie => exact h
  all_goals exact machineInv_memStore v ha h

theorem machineInv_advanceDot {s : State} (h : machineInv s) : machineInv (advanceDot s) := by
  have h1 : machineInv (tickTimer { s with ticks := s.ticks + 1 }) :=
    machineInv_requests _ ((machineInv_congr rfl rfl rfl rfl rfl rfl).2 h)
  unfold advanceDot tickAudio
  generalize tickTimer { s with ticks := s.ticks + 1 } = t at h1
  obtain ⟨h1, h2, h3, h4, h5, h6⟩ := h1
  refine (machineInv_congr rfl rfl rfl rfl rfl rfl).2
    (machineInv_requests (ppuRequests t.params t.mem t.ppu)
      (s := { t with ppu := ppuTick t.params t.mem t.ppu }) ⟨h1, h2, h3, ?_, h5, pictureInv_ppuTick _ _ h6⟩)
  show (ppuTick t.params t.mem t.ppu).statEn &&& 0x87#8 = 0x00#8
  rw [(ppuTick_regs _ _ _).statEn]; exact h4

theorem machineInv_dmaTick {s : State} (h : machineInv s) : machineInv (dmaTick s) := by
  unfold dmaTick
  by_cases ha : s.dma.active = true
  · rw [if_pos ha]
    by_cases hd : 0 < s.dma.delay
    · rw [if_pos hd]
      obtain ⟨h1, h2, h3, h4, h5, h6⟩ := h
      exact ⟨h1, h2, ⟨h3.1, by show s.dma.delay - 1 ≤ 2; have := h3.2.1; omega, h3.2.2⟩, h4, h5, h6⟩
    · rw [if_neg hd]
      have hn := h.2.2.1.2.2 ha
      have hdl := h.2.2.1.2.1
      unfold dmaCopy oamStore
      rw [if_pos hn]
      obtain ⟨h1, h2, -, h4, h5, h6⟩ :=
        machineInv_memStore (a := 0xFE00 + s.dma.nextByte) (busRead s (dmaSource s.dma)) (by omega)
          (machineInv_afterRead (dmaSource s.dma) h)
      exact ⟨h1, h2, ⟨by show s.dma.nextByte + 1 ≤ 160; omega, hdl, by simp⟩, h4, h5, h6⟩
  · rw [if_neg ha]; exact h

/-- Time keeps every invariant. -/
theorem machineInv_advance (n : Nat) : ∀ {s : State}, machineInv s → machineInv (advance n s) := by
  induction n with
  | zero => exact fun h => h
  | succ n ih =>
    exact fun h => ih (machineInv_dmaTick (machineInv_advanceDot (machineInv_advanceDot
      (machineInv_advanceDot (machineInv_advanceDot h)))))

theorem machineInv_memRead {s : State} (a : Word) (h : machineInv s) : machineInv (memRead s a).2 :=
  machineInv_advance 1 (machineInv_afterRead a h)

theorem machineInv_memWrite {s : State} (a : Word) (v : Byte) (h : machineInv s) : machineInv (memWrite s a v) :=
  machineInv_advance 1 (machineInv_busWrite a v h)

theorem machineInv_memWrite16 {s : State} (a v : Word) (h : machineInv s) : machineInv (memWrite16 s a v) := by
  unfold memWrite16
  exact machineInv_memWrite _ _ (machineInv_memWrite _ _ h)

theorem machineInv_internal {s : State} (h : machineInv s) : machineInv (internal s) := machineInv_advance 1 h

theorem machineInv_internals {s : State} (n : Nat) (h : machineInv s) : machineInv (internals n s) :=
  machineInv_advance n h

theorem machineInv_fetch8 {s : State} (h : machineInv s) : machineInv (fetch8 s).2 := by
  simp only [fetch8]
  exact (machineInv_pc _ _).2 (machineInv_memRead _ h)

theorem machineInv_fetch16 {s : State} (h : machineInv s) : machineInv (fetch16 s).2 := by
  simp only [fetch16]
  exact machineInv_fetch8 (machineInv_fetch8 h)

theorem machineInv_pushByte {s : State} (v : Byte) (h : machineInv s) : machineInv (pushByte s v) := by
  unfold pushByte
  exact machineInv_memWrite _ v ((machineInv_sp s _).2 h)

theorem machineInv_push16 {s : State} (v : Word) (h : machineInv s) : machineInv (push16 s v) := by
  unfold push16
  exact machineInv_pushByte _ (machineInv_pushByte _ h)

theorem machineInv_popByte {s : State} (h : machineInv s) : machineInv (popByte s).2 := by
  simp only [popByte]
  exact (machineInv_sp _ _).2 (machineInv_memRead _ h)

theorem machineInv_pop16 {s : State} (h : machineInv s) : machineInv (pop16 s).2 := by
  simp only [pop16]
  exact machineInv_popByte (machineInv_popByte h)

theorem machineInv_modifyHl {s : State} (g : Byte → Byte) (h : machineInv s) : machineInv (modifyHl s g).2 := by
  simp only [modifyHl]
  exact machineInv_memWrite _ _ (machineInv_memRead _ h)

theorem machineInv_loadReg {s : State} (r : Reg8) (a : Word) (h : machineInv s) : machineInv (loadReg s r a) := by
  simp only [loadReg]
  exact (machineInv_writeReg _ _ _).2 (machineInv_memRead _ h)

theorem machineInv_storeReg {s : State} (r : Reg8) (a : Word) (h : machineInv s) : machineInv (storeReg s r a) :=
  machineInv_memWrite _ _ h

theorem machineInv_enterHandler {s : State} (k : Source) (h : machineInv s) : machineInv (enterHandler s k) :=
  (machineInv_congr rfl rfl rfl rfl rfl rfl).2 h

theorem machineInv_dispatchInterrupt {s : State} (k : Source) (h : machineInv s) :
    machineInv (dispatchInterrupt s k) := by
  simp only [dispatchInterrupt]
  exact (machineInv_halted _ _).2 (machineInv_internals _ (machineInv_enterHandler k (machineInv_push16 _
    (machineInv_internals _ h))))

theorem machineInv_returnFromInterrupt {s : State} (h : machineInv s) : machineInv (returnFromInterrupt s) := by
  simp only [returnFromInterrupt]
  exact machineInv_internal ((machineInv_pc_ime _ _ _).2 (machineInv_pop16 h))

theorem machineInv_endOfStep {s : State} (h : machineInv s) : machineInv (endOfStep s) := by
  have hc : machineInv (interruptCheck s) := by
    unfold interruptCheck
    split
    · split
      · exact machineInv_dispatchInterrupt _ h
      · exact h
    · exact h
  unfold endOfStep promoteEnable
  split
  · exact (machineInv_ime2 (interruptCheck s) _ _).2 hc
  · exact hc

theorem machineInv_haltedTick {s : State} (h : machineInv s) : machineInv (haltedTick s) := by
  unfold haltedTick
  simp only
  split
  · exact (machineInv_halted (advance 1 s) _).2 (machineInv_advance 1 h)
  · exact machineInv_advance 1 h

theorem machineInv_raiseFatal {s : State} (op : Byte) (a : Word) (h : machineInv s) : machineInv (raiseFatal s op a) := by
  obtain ⟨h1, h2, h3, h4, -, h6⟩ := h
  exact ⟨h1, h2, h3, h4, by simp [fatalInv, raiseFatal], h6⟩

theorem machineInv_placeBytes (vs : List Byte) : ∀ {s : State} (a : Word), machineInv s → machineInv (placeBytes s a vs) := by
  induction vs with
  | nil => exact fun _ h => h
  | cons v vs ih => exact fun a h => ih _ (machineInv_memStore v a.isLt h)

/-- The host's reset keeps the cartridge's image in canonical form and puts every register at its reset value. -/
theorem machineInv_resetMove {s : State} (h : machineInv s) (hl : launchInv s.launch) : machineInv (resetMove s) := by
  obtain ⟨h1, h2, h3, h4⟩ := hl
  exact ⟨h1, sparseWf_filter _ _ _ _ h.2.1, h2, h3, fun hf => absurd hf (by simp [resetMove, State.launched]), h4⟩

/-- `RESET`'s default meets what the invariants ask of it. -/
theorem launchInv_default : launchInv ResetValues.default := by decide +kernel

end Sys2Proof.Machine
end

