-- ==== Sys2Proof/Laws/Meanings.lean ====
section
/-! SUPPORT. What the shared operations of the instructions' meanings keep: the invariants, the run state, the
interrupt-enable bits and the machine's parameters. One lemma for each operation, so that a statement over all instructions needs no meaning
unfolded but for the four that write those bits. -/

namespace Sys2Proof.Machine

/-- From `s` to `t` the invariants stay, and the run state, the interrupt-enable bits and the parameters are unchanged. -/
structure Ordinary (s t : State) : Prop where
  inv : machineInv s → machineInv t
  control : sameControl s t
  build : sameBuild s t

theorem Ordinary.refl (s : State) : Ordinary s s := ⟨id, ⟨rfl, rfl, rfl, rfl, rfl, rfl⟩, rfl, rfl⟩

theorem Ordinary.trans {s t u : State} (h : Ordinary s t) (k : Ordinary t u) : Ordinary s u := by
  obtain ⟨hi, ⟨h1, h2, h3, h4, h5, h6⟩, h7, h8⟩ := h
  obtain ⟨ki, ⟨k1, k2, k3, k4, k5, k6⟩, k7, k8⟩ := k
  exact ⟨fun x => ki (hi x), ⟨k1.trans h1, k2.trans h2, k3.trans h3, k4.trans h4, k5.trans h5, k6.trans h6⟩,
    k7.trans h7, k8.trans h8⟩

theorem ordinary_pc (s : State) (v : Word) : Ordinary s { s with pc := v } :=
  ⟨(machineInv_pc s v).2, ⟨rfl, rfl, rfl, rfl, rfl, rfl⟩, rfl, rfl⟩

theorem ordinary_sp (s : State) (v : Word) : Ordinary s { s with sp := v } :=
  ⟨(machineInv_sp s v).2, ⟨rfl, rfl, rfl, rfl, rfl, rfl⟩, rfl, rfl⟩

theorem ordinary_a (s : State) (v : Byte) : Ordinary s { s with a := v } :=
  ⟨(machineInv_a s v).2, ⟨rfl, rfl, rfl, rfl, rfl, rfl⟩, rfl, rfl⟩

theorem ordinary_writeReg (s : State) (r : Reg8) (v : Byte) : Ordinary s (writeReg s r v) :=
  ⟨(machineInv_writeReg s r v).2, by cases r <;> exact ⟨rfl, rfl, rfl, rfl, rfl, rfl⟩,
    by cases r <;> exact ⟨rfl, rfl⟩⟩

theorem ordinary_setHl (s : State) (v : Word) : Ordinary s (setHl s v) :=
  ⟨(machineInv_setHl s v).2, ⟨rfl, rfl, rfl, rfl, rfl, rfl⟩, rfl, rfl⟩

theorem ordinary_writePair (s : State) (rr : RegPair) (v : Word) : Ordinary s (writePair s rr v) :=
  ⟨(machineInv_writePair s rr v).2, by cases rr <;> exact ⟨rfl, rfl, rfl, rfl, rfl, rfl⟩,
    by cases rr <;> exact ⟨rfl, rfl⟩⟩

theorem ordinary_writeStackPair (s : State) (rr : StackPair) (v : Word) : Ordinary s (writeStackPair s rr v) :=
  ⟨machineInv_writeStackPair rr v, by cases rr <;> exact ⟨rfl, rfl, rfl, rfl, rfl, rfl⟩,
    by cases rr <;> exact ⟨rfl, rfl⟩⟩

theorem ordinary_setFlags (s : State) (z n h c : Option Bool) : Ordinary s (setFlags s z n h c) :=
  ⟨machineInv_setFlags z n h c, ⟨rfl, rfl, rfl, rfl, rfl, rfl⟩, rfl, rfl⟩

theorem ordinary_memRead (s : State) (a : Word) : Ordinary s (memRead s a).2 :=
  ⟨machineInv_memRead a, by simp [sameControl], by simp [sameBuild]⟩

theorem ordinary_memWrite (s : State) (a : Word) (v : Byte) : Ordinary s (memWrite s a v) :=
  ⟨machineInv_memWrite a v, by simp [sameControl], by simp [sameBuild]⟩

theorem ordinary_memWrite16 (s : State) (a v : Word) : Ordinary s (memWrite16 s a v) :=
  (ordinary_memWrite _ _ _).trans (ordinary_memWrite _ _ _)

theorem ordinary_internal (s : State) : Ordinary s (internal s) := ⟨machineInv_internal, by simp [sameControl], by simp [sameBuild]⟩

theorem ordinary_internals (n : Nat) (s : State) : Ordinary s (internals n s) :=
  ⟨machineInv_internals n, by simp [sameControl], by simp [sameBuild]⟩

theorem ordinary_fetch8 (s : State) : Ordinary s (fetch8 s).2 := ⟨machineInv_fetch8, by simp [sameControl], by simp [sameBuild]⟩

theorem ordinary_fetch16 (s : State) : Ordinary s (fetch16 s).2 := (ordinary_fetch8 s).trans (ordinary_fetch8 _)

theorem ordinary_push16 (s : State) (v : Word) : Ordinary s (push16 s v) :=
  ⟨machineInv_push16 v, by simp [sameControl], by simp [sameBuild]⟩

theorem ordinary_pop16 (s : State) : Ordinary s (pop16 s).2 := ⟨machineInv_pop16, by simp [sameControl], by simp [sameBuild]⟩

theorem ordinary_modifyHl (s : State) (g : Byte → Byte) : Ordinary s (modifyHl s g).2 :=
  (ordinary_memRead _ _).trans (ordinary_memWrite _ _ _)

theorem ordinary_loadReg (s : State) (r : Reg8) (a : Word) : Ordinary s (loadReg s r a) :=
  (ordinary_memRead s a).trans (ordinary_writeReg _ _ _)

theorem ordinary_storeReg (s : State) (r : Reg8) (a : Word) : Ordinary s (storeReg s r a) := ordinary_memWrite _ _ _

theorem ordinary_bumpHl (s : State) : Ordinary s (bumpHl s) := ordinary_setHl _ _

theorem ordinary_dropHl (s : State) : Ordinary s (dropHl s) := ordinary_setHl _ _

theorem ordinary_ldReg (s : State) (dst src : Reg8) : Ordinary s (ldReg s dst src) := ordinary_writeReg _ _ _

theorem ordinary_pushPair (s : State) (rr : StackPair) : Ordinary s (pushPair s rr) :=
  (ordinary_internal s).trans (ordinary_push16 _ _)

theorem ordinary_popPair (s : State) (rr : StackPair) : Ordinary s (popPair s rr) :=
  (ordinary_pop16 s).trans (ordinary_writeStackPair _ _ _)

theorem ordinary_setSpRelFlags (s : State) (e : Byte) : Ordinary s (setSpRelFlags s e) := ordinary_setFlags _ _ _ _ _

theorem ordinary_aluAcc (s : State) (op : AluOp) (b : Byte) : Ordinary s (aluAcc s op b) := by
  refine Ordinary.trans ?_ (ordinary_setFlags _ _ _ _ _)
  split
  · exact .refl s
  · exact ordinary_a s _

theorem ordinary_aluHlByte (s : State) (op : AluOp) : Ordinary s (aluHlByte s op) :=
  (ordinary_memRead s _).trans (ordinary_aluAcc _ _ _)

theorem ordinary_incReg8 (s : State) (r : Reg8) : Ordinary s (incReg8 s r) :=
  (ordinary_writeReg s r _).trans (ordinary_setFlags _ _ _ _ _)

theorem ordinary_decReg8 (s : State) (r : Reg8) : Ordinary s (decReg8 s r) :=
  (ordinary_writeReg s r _).trans (ordinary_setFlags _ _ _ _ _)

theorem ordinary_incHlByte (s : State) : Ordinary s (incHlByte s) :=
  (ordinary_modifyHl s _).trans (ordinary_setFlags _ _ _ _ _)

theorem ordinary_decHlByte (s : State) : Ordinary s (decHlByte s) :=
  (ordinary_modifyHl s _).trans (ordinary_setFlags _ _ _ _ _)

theorem ordinary_decimalAdjust (s : State) : Ordinary s (decimalAdjust s) :=
  (ordinary_a s _).trans (ordinary_setFlags _ _ _ _ _)

theorem ordinary_addToHl (s : State) (b : Word) : Ordinary s (addToHl s b) :=
  ((ordinary_setHl s _).trans (ordinary_setFlags _ _ _ _ _)).trans (ordinary_internal _)

theorem ordinary_rotateAcc (s : State) (op : ShiftOp) : Ordinary s (rotateAcc s op) :=
  (ordinary_a s _).trans (ordinary_setFlags _ _ _ _ _)

theorem ordinary_shiftReg8 (s : State) (op : ShiftOp) (r : Reg8) : Ordinary s (shiftReg8 s op r) :=
  (ordinary_writeReg s r _).trans (ordinary_setFlags _ _ _ _ _)

theorem ordinary_shiftHlByte (s : State) (op : ShiftOp) : Ordinary s (shiftHlByte s op) :=
  (ordinary_modifyHl s _).trans (ordinary_setFlags _ _ _ _ _)

theorem ordinary_setBitTestFlags (s : State) (v : Byte) (b : Nat) : Ordinary s (setBitTestFlags s v b) :=
  ordinary_setFlags _ _ _ _ _

theorem ordinary_bitHlByte (s : State) (b : Nat) : Ordinary s (bitHlByte s b) :=
  (ordinary_memRead s _).trans (ordinary_setFlags _ _ _ _ _)

theorem ordinary_jumpTo (s : State) (a : Word) : Ordinary s (jumpTo s a) := (ordinary_pc s a).trans (ordinary_internal _)

theorem ordinary_callTo (s : State) (a : Word) : Ordinary s (callTo s a) :=
  ((ordinary_internal s).trans (ordinary_push16 _ _)).trans (ordinary_pc _ _)

theorem ordinary_returnTo (s : State) : Ordinary s (returnTo s) :=
  ((ordinary_pop16 s).trans (ordinary_pc _ _)).trans (ordinary_internal _)

theorem ordinary_returnIf (s : State) (cc : Cond) : Ordinary s (returnIf s cc) := by
  unfold returnIf
  split
  · exact (ordinary_internal s).trans (ordinary_returnTo _)
  · exact ordinary_internal s

theorem ordinary_ite {s t u : State} (c : Bool) (h : Ordinary s t) (k : Ordinary s u) :
    Ordinary s (if c = true then t else u) := by
  split
  · exact h
  · exact k

end Sys2Proof.Machine
end

