-- ==== Sys2Proof/Laws/Prefix.lean ====
section
/-! SUPPORT. PREFIX CB runs the second table: its list of meanings is `exec` of the decoder's second table (R276, R109). -/

namespace Sys2Proof.Machine

theorem meaningRow0_eq : meaningRow0 = secondRow0.map exec := by
  simp [meaningRow0, secondRow0]
  exact ⟨rfl, rfl, rfl, rfl, rfl, rfl, rfl, rfl, rfl, rfl, rfl, rfl, rfl, rfl, rfl, rfl⟩

theorem meaningRow1_eq : meaningRow1 = secondRow1.map exec := by
  simp [meaningRow1, secondRow1]
  exact ⟨rfl, rfl, rfl, rfl, rfl, rfl, rfl, rfl, rfl, rfl, rfl, rfl, rfl, rfl, rfl, rfl⟩

theorem meaningRow2_eq : meaningRow2 = secondRow2.map exec := by
  simp [meaningRow2, secondRow2]
  exact ⟨rfl, rfl, rfl, rfl, rfl, rfl, rfl, rfl, rfl, rfl, rfl, rfl, rfl, rfl, rfl, rfl⟩

theorem meaningRow3_eq : meaningRow3 = secondRow3.map exec := by
  simp [meaningRow3, secondRow3]
  exact ⟨rfl, rfl, rfl, rfl, rfl, rfl, rfl, rfl, rfl, rfl, rfl, rfl, rfl, rfl, rfl, rfl⟩

theorem meaningRow4_eq : meaningRow4 = secondRow4.map exec := by
  simp [meaningRow4, secondRow4]
  exact ⟨rfl, rfl, rfl, rfl, rfl, rfl, rfl, rfl, rfl, rfl, rfl, rfl, rfl, rfl, rfl, rfl⟩

theorem meaningRow5_eq : meaningRow5 = secondRow5.map exec := by
  simp [meaningRow5, secondRow5]
  exact ⟨rfl, rfl, rfl, rfl, rfl, rfl, rfl, rfl, rfl, rfl, rfl, rfl, rfl, rfl, rfl, rfl⟩

theorem meaningRow6_eq : meaningRow6 = secondRow6.map exec := by
  simp [meaningRow6, secondRow6]
  exact ⟨rfl, rfl, rfl, rfl, rfl, rfl, rfl, rfl, rfl, rfl, rfl, rfl, rfl, rfl, rfl, rfl⟩

theorem meaningRow7_eq : meaningRow7 = secondRow7.map exec := by
  simp [meaningRow7, secondRow7]
  exact ⟨rfl, rfl, rfl, rfl, rfl, rfl, rfl, rfl, rfl, rfl, rfl, rfl, rfl, rfl, rfl, rfl⟩

theorem meaningRow8_eq : meaningRow8 = secondRow8.map exec := by
  simp [meaningRow8, secondRow8]
  exact ⟨rfl, rfl, rfl, rfl, rfl, rfl, rfl, rfl, rfl, rfl, rfl, rfl, rfl, rfl, rfl, rfl⟩

theorem meaningRow9_eq : meaningRow9 = secondRow9.map exec := by
  simp [meaningRow9, secondRow9]
  exact ⟨rfl, rfl, rfl, rfl, rfl, rfl, rfl, rfl, rfl, rfl, rfl, rfl, rfl, rfl, rfl, rfl⟩

theorem meaningRowA_eq : meaningRowA = secondRowA.map exec := by
  simp [meaningRowA, secondRowA]
  exact ⟨rfl, rfl, rfl, rfl, rfl, rfl, rfl, rfl, rfl, rfl, rfl, rfl, rfl, rfl, rfl, rfl⟩

theorem meaningRowB_eq : meaningRowB = secondRowB.map exec := by
  simp [meaningRowB, secondRowB]
  exact ⟨rfl, rfl, rfl, rfl, rfl, rfl, rfl, rfl, rfl, rfl, rfl, rfl, rfl, rfl, rfl, rfl⟩

theorem meaningRowC_eq : meaningRowC = secondRowC.map exec := by
  simp [meaningRowC, secondRowC]
  exact ⟨rfl, rfl, rfl, rfl, rfl, rfl, rfl, rfl, rfl, rfl, rfl, rfl, rfl, rfl, rfl, rfl⟩

theorem meaningRowD_eq : meaningRowD = secondRowD.map exec := by
  simp [meaningRowD, secondRowD]
  exact ⟨rfl, rfl, rfl, rfl, rfl, rfl, rfl, rfl, rfl, rfl, rfl, rfl, rfl, rfl, rfl, rfl⟩

theorem meaningRowE_eq : meaningRowE = secondRowE.map exec := by
  simp [meaningRowE, secondRowE]
  exact ⟨rfl, rfl, rfl, rfl, rfl, rfl, rfl, rfl, rfl, rfl, rfl, rfl, rfl, rfl, rfl, rfl⟩

theorem meaningRowF_eq : meaningRowF = secondRowF.map exec := by
  simp [meaningRowF, secondRowF]
  exact ⟨rfl, rfl, rfl, rfl, rfl, rfl, rfl, rfl, rfl, rfl, rfl, rfl, rfl, rfl, rfl, rfl⟩

theorem secondMeanings_eq : secondMeanings = secondTable.map (Vector.map exec) := by
  simp only [secondMeanings, secondTable, meaningRow0_eq, meaningRow1_eq, meaningRow2_eq, meaningRow3_eq, meaningRow4_eq,
    meaningRow5_eq, meaningRow6_eq, meaningRow7_eq, meaningRow8_eq, meaningRow9_eq, meaningRowA_eq, meaningRowB_eq,
    meaningRowC_eq, meaningRowD_eq, meaningRowE_eq, meaningRowF_eq, Vector.map_mk, List.map_toArray, List.map_cons,
    List.map_nil]

/-- The operation of the second table's entry is the instruction's own meaning (R276). -/
theorem execSecond_eq (op : Byte) (s : State) : execSecond op s = exec (secondEntry op) s := by
  unfold execSecond secondEntry
  rw [secondMeanings_eq]
  simp only [Fin.getElem_fin, Vector.getElem_map]

end Sys2Proof.Machine
end

