-- ==== Sys2Proof/Laws/Exec.lean ====
section
/-! SUPPORT. What an instruction can do, said once: it answers a next state, and all but seven keep the run state and the
interrupt-enable bits, and with them every invariant. -/

namespace Sys2Proof.Machine

/-- The seven instructions with a rule of their own: RETI, STOP, DI, EI, HALT, ILLEGAL and PREFIX CB (R260, R272 to R277). -/
def special : Instr → Bool
  | .reti => true
  | .stop => true
  | .di => true
  | .ei => true
  | .halt => true
  | .illegal _ => true
  | .prefixCb => true
  | _ => false

/-- Every other instruction answers a next state that keeps the invariants, the run state and the
parameters. -/
theorem exec_ordinary (s : State) (i : Instr) (hi : special i = false) : ∃ t, exec i s = .next t ∧ Ordinary s t :=
  match i, hi with
  | .nop, _ => ⟨_, rfl, .refl s⟩
  | .ldBcN16 _, _ => ⟨_, rfl, ordinary_writePair s _ _⟩
  | .ldAtBcA, _ => ⟨_, rfl, ordinary_storeReg s _ _⟩
  | .incBc, _ => ⟨_, rfl, (ordinary_writePair s _ _).trans (ordinary_internal _)⟩
  | .incB, _ => ⟨_, rfl, ordinary_incReg8 s _⟩
  | .decB, _ => ⟨_, rfl, ordinary_decReg8 s _⟩
  | .ldBN8 _, _ => ⟨_, rfl, ordinary_writeReg s _ _⟩
  | .rlca, _ => ⟨_, rfl, ordinary_rotateAcc s _⟩
  | .ldAtN16Sp _, _ => ⟨_, rfl, ordinary_memWrite16 s _ _⟩
  | .addHlBc, _ => ⟨_, rfl, ordinary_addToHl s _⟩
  | .ldAAtBc, _ => ⟨_, rfl, ordinary_loadReg s _ _⟩
  | .decBc, _ => ⟨_, rfl, (ordinary_writePair s _ _).trans (ordinary_internal _)⟩
  | .incC, _ => ⟨_, rfl, ordinary_incReg8 s _⟩
  | .decC, _ => ⟨_, rfl, ordinary_decReg8 s _⟩
  | .ldCN8 _, _ => ⟨_, rfl, ordinary_writeReg s _ _⟩
  | .rrca, _ => ⟨_, rfl, ordinary_rotateAcc s _⟩
  | .stop, h => absurd h Bool.noConfusion
  | .ldDeN16 _, _ => ⟨_, rfl, ordinary_writePair s _ _⟩
  | .ldAtDeA, _ => ⟨_, rfl, ordinary_storeReg s _ _⟩
  | .incDe, _ => ⟨_, rfl, (ordinary_writePair s _ _).trans (ordinary_internal _)⟩
  | .incD, _ => ⟨_, rfl, ordinary_incReg8 s _⟩
  | .decD, _ => ⟨_, rfl, ordinary_decReg8 s _⟩
  | .ldDN8 _, _ => ⟨_, rfl, ordinary_writeReg s _ _⟩
  | .rla, _ => ⟨_, rfl, ordinary_rotateAcc s _⟩
  | .jrE8 _, _ => ⟨_, rfl, ordinary_jumpTo s _⟩
  | .addHlDe, _ => ⟨_, rfl, ordinary_addToHl s _⟩
  | .ldAAtDe, _ => ⟨_, rfl, ordinary_loadReg s _ _⟩
  | .decDe, _ => ⟨_, rfl, (ordinary_writePair s _ _).trans (ordinary_internal _)⟩
  | .incE, _ => ⟨_, rfl, ordinary_incReg8 s _⟩
  | .decE, _ => ⟨_, rfl, ordinary_decReg8 s _⟩
  | .ldEN8 _, _ => ⟨_, rfl, ordinary_writeReg s _ _⟩
  | .rra, _ => ⟨_, rfl, ordinary_rotateAcc s _⟩
  | .jrNzE8 _, _ => ⟨_, rfl, ordinary_ite _ (ordinary_jumpTo s _) (.refl s)⟩
  | .ldHlN16 _, _ => ⟨_, rfl, ordinary_writePair s _ _⟩
  | .ldAtHlIncA, _ => ⟨_, rfl, (ordinary_storeReg s _ _).trans (ordinary_bumpHl _)⟩
  | .incHl, _ => ⟨_, rfl, (ordinary_writePair s _ _).trans (ordinary_internal _)⟩
  | .incH, _ => ⟨_, rfl, ordinary_incReg8 s _⟩
  | .decH, _ => ⟨_, rfl, ordinary_decReg8 s _⟩
  | .ldHN8 _, _ => ⟨_, rfl, ordinary_writeReg s _ _⟩
  | .daa, _ => ⟨_, rfl, ordinary_decimalAdjust s⟩
  | .jrZE8 _, _ => ⟨_, rfl, ordinary_ite _ (ordinary_jumpTo s _) (.refl s)⟩
  | .addHlHl, _ => ⟨_, rfl, ordinary_addToHl s _⟩
  | .ldAAtHlInc, _ => ⟨_, rfl, (ordinary_loadReg s _ _).trans (ordinary_bumpHl _)⟩
  | .decHl, _ => ⟨_, rfl, (ordinary_writePair s _ _).trans (ordinary_internal _)⟩
  | .incL, _ => ⟨_, rfl, ordinary_incReg8 s _⟩
  | .decL, _ => ⟨_, rfl, ordinary_decReg8 s _⟩
  | .ldLN8 _, _ => ⟨_, rfl, ordinary_writeReg s _ _⟩
  | .cpl, _ => ⟨_, rfl, (ordinary_a s _).trans (ordinary_setFlags _ _ _ _ _)⟩
  | .jrNcE8 _, _ => ⟨_, rfl, ordinary_ite _ (ordinary_jumpTo s _) (.refl s)⟩
  | .ldSpN16 _, _ => ⟨_, rfl, ordinary_writePair s _ _⟩
  | .ldAtHlDecA, _ => ⟨_, rfl, (ordinary_storeReg s _ _).trans (ordinary_dropHl _)⟩
  | .incSp, _ => ⟨_, rfl, (ordinary_writePair s _ _).trans (ordinary_internal _)⟩
  | .incAtHl, _ => ⟨_, rfl, ordinary_incHlByte s⟩
  | .decAtHl, _ => ⟨_, rfl, ordinary_decHlByte s⟩
  | .ldAtHlN8 _, _ => ⟨_, rfl, ordinary_memWrite s _ _⟩
  | .scf, _ => ⟨_, rfl, ordinary_setFlags s _ _ _ _⟩
  | .jrCE8 _, _ => ⟨_, rfl, ordinary_ite _ (ordinary_jumpTo s _) (.refl s)⟩
  | .addHlSp, _ => ⟨_, rfl, ordinary_addToHl s _⟩
  | .ldAAtHlDec, _ => ⟨_, rfl, (ordinary_loadReg s _ _).trans (ordinary_dropHl _)⟩
  | .decSp, _ => ⟨_, rfl, (ordinary_writePair s _ _).trans (ordinary_internal _)⟩
  | .incA, _ => ⟨_, rfl, ordinary_incReg8 s _⟩
  | .decA, _ => ⟨_, rfl, ordinary_decReg8 s _⟩
  | .ldAN8 _, _ => ⟨_, rfl, ordinary_writeReg s _ _⟩
  | .ccf, _ => ⟨_, rfl, ordinary_setFlags s _ _ _ _⟩
  | .ldBB, _ => ⟨_, rfl, ordinary_ldReg s _ _⟩
  | .ldBC, _ => ⟨_, rfl, ordinary_ldReg s _ _⟩
  | .ldBD, _ => ⟨_, rfl, ordinary_ldReg s _ _⟩
  | .ldBE, _ => ⟨_, rfl, ordinary_ldReg s _ _⟩
  | .ldBH, _ => ⟨_, rfl, ordinary_ldReg s _ _⟩
  | .ldBL, _ => ⟨_, rfl, ordinary_ldReg s _ _⟩
  | .ldBAtHl, _ => ⟨_, rfl, ordinary_loadReg s _ _⟩
  | .ldBA, _ => ⟨_, rfl, ordinary_ldReg s _ _⟩
  | .ldCB, _ => ⟨_, rfl, ordinary_ldReg s _ _⟩
  | .ldCC, _ => ⟨_, rfl, ordinary_ldReg s _ _⟩
  | .ldCD, _ => ⟨_, rfl, ordinary_ldReg s _ _⟩
  | .ldCE, _ => ⟨_, rfl, ordinary_ldReg s _ _⟩
  | .ldCH, _ => ⟨_, rfl, ordinary_ldReg s _ _⟩
  | .ldCL, _ => ⟨_, rfl, ordinary_ldReg s _ _⟩
  | .ldCAtHl, _ => ⟨_, rfl, ordinary_loadReg s _ _⟩
  | .ldCA, _ => ⟨_, rfl, ordinary_ldReg s _ _⟩
  | .ldDB, _ => ⟨_, rfl, ordinary_ldReg s _ _⟩
  | .ldDC, _ => ⟨_, rfl, ordinary_ldReg s _ _⟩
  | .ldDD, _ => ⟨_, rfl, ordinary_ldReg s _ _⟩
  | .ldDE, _ => ⟨_, rfl, ordinary_ldReg s _ _⟩
  | .ldDH, _ => ⟨_, rfl, ordinary_ldReg s _ _⟩
  | .ldDL, _ => ⟨_, rfl, ordinary_ldReg s _ _⟩
  | .ldDAtHl, _ => ⟨_, rfl, ordinary_loadReg s _ _⟩
  | .ldDA, _ => ⟨_, rfl, ordinary_ldReg s _ _⟩
  | .ldEB, _ => ⟨_, rfl, ordinary_ldReg s _ _⟩
  | .ldEC, _ => ⟨_, rfl, ordinary_ldReg s _ _⟩
  | .ldED, _ => ⟨_, rfl, ordinary_ldReg s _ _⟩
  | .ldEE, _ => ⟨_, rfl, ordinary_ldReg s _ _⟩
  | .ldEH, _ => ⟨_, rfl, ordinary_ldReg s _ _⟩
  | .ldEL, _ => ⟨_, rfl, ordinary_ldReg s _ _⟩
  | .ldEAtHl, _ => ⟨_, rfl, ordinary_loadReg s _ _⟩
  | .ldEA, _ => ⟨_, rfl, ordinary_ldReg s _ _⟩
  | .ldHB, _ => ⟨_, rfl, ordinary_ldReg s _ _⟩
  | .ldHC, _ => ⟨_, rfl, ordinary_ldReg s _ _⟩
  | .ldHD, _ => ⟨_, rfl, ordinary_ldReg s _ _⟩
  | .ldHE, _ => ⟨_, rfl, ordinary_ldReg s _ _⟩
  | .ldHH, _ => ⟨_, rfl, ordinary_ldReg s _ _⟩
  | .ldHL, _ => ⟨_, rfl, ordinary_ldReg s _ _⟩
  | .ldHAtHl, _ => ⟨_, rfl, ordinary_loadReg s _ _⟩
  | .ldHA, _ => ⟨_, rfl, ordinary_ldReg s _ _⟩
  | .ldLB, _ => ⟨_, rfl, ordinary_ldReg s _ _⟩
  | .ldLC, _ => ⟨_, rfl, ordinary_ldReg s _ _⟩
  | .ldLD, _ => ⟨_, rfl, ordinary_ldReg s _ _⟩
  | .ldLE, _ => ⟨_, rfl, ordinary_ldReg s _ _⟩
  | .ldLH, _ => ⟨_, rfl, ordinary_ldReg s _ _⟩
  | .ldLL, _ => ⟨_, rfl, ordinary_ldReg s _ _⟩
  | .ldLAtHl, _ => ⟨_, rfl, ordinary_loadReg s _ _⟩
  | .ldLA, _ => ⟨_, rfl, ordinary_ldReg s _ _⟩
  | .ldAtHlB, _ => ⟨_, rfl, ordinary_storeReg s _ _⟩
  | .ldAtHlC, _ => ⟨_, rfl, ordinary_storeReg s _ _⟩
  | .ldAtHlD, _ => ⟨_, rfl, ordinary_storeReg s _ _⟩
  | .ldAtHlE, _ => ⟨_, rfl, ordinary_storeReg s _ _⟩
  | .ldAtHlH, _ => ⟨_, rfl, ordinary_storeReg s _ _⟩
  | .ldAtHlL, _ => ⟨_, rfl, ordinary_storeReg s _ _⟩
  | .halt, h => absurd h Bool.noConfusion
  | .ldAtHlA, _ => ⟨_, rfl, ordinary_storeReg s _ _⟩
  | .ldAB, _ => ⟨_, rfl, ordinary_ldReg s _ _⟩
  | .ldAC, _ => ⟨_, rfl, ordinary_ldReg s _ _⟩
  | .ldAD, _ => ⟨_, rfl, ordinary_ldReg s _ _⟩
  | .ldAE, _ => ⟨_, rfl, ordinary_ldReg s _ _⟩
  | .ldAH, _ => ⟨_, rfl, ordinary_ldReg s _ _⟩
  | .ldAL, _ => ⟨_, rfl, ordinary_ldReg s _ _⟩
  | .ldAAtHl, _ => ⟨_, rfl, ordinary_loadReg s _ _⟩
  | .ldAA, _ => ⟨_, rfl, ordinary_ldReg s _ _⟩
  | .addAB, _ => ⟨_, rfl, ordinary_aluAcc s _ _⟩
  | .addAC, _ => ⟨_, rfl, ordinary_aluAcc s _ _⟩
  | .addAD, _ => ⟨_, rfl, ordinary_aluAcc s _ _⟩
  | .addAE, _ => ⟨_, rfl, ordinary_aluAcc s _ _⟩
  | .addAH, _ => ⟨_, rfl, ordinary_aluAcc s _ _⟩
  | .addAL, _ => ⟨_, rfl, ordinary_aluAcc s _ _⟩
  | .addAAtHl, _ => ⟨_, rfl, ordinary_aluHlByte s _⟩
  | .addAA, _ => ⟨_, rfl, ordinary_aluAcc s _ _⟩
  | .adcAB, _ => ⟨_, rfl, ordinary_aluAcc s _ _⟩
  | .adcAC, _ => ⟨_, rfl, ordinary_aluAcc s _ _⟩
  | .adcAD, _ => ⟨_, rfl, ordinary_aluAcc s _ _⟩
  | .adcAE, _ => ⟨_, rfl, ordinary_aluAcc s _ _⟩
  | .adcAH, _ => ⟨_, rfl, ordinary_aluAcc s _ _⟩
  | .adcAL, _ => ⟨_, rfl, ordinary_aluAcc s _ _⟩
  | .adcAAtHl, _ => ⟨_, rfl, ordinary_aluHlByte s _⟩
  | .adcAA, _ => ⟨_, rfl, ordinary_aluAcc s _ _⟩
  | .subB, _ => ⟨_, rfl, ordinary_aluAcc s _ _⟩
  | .subC, _ => ⟨_, rfl, ordinary_aluAcc s _ _⟩
  | .subD, _ => ⟨_, rfl, ordinary_aluAcc s _ _⟩
  | .subE, _ => ⟨_, rfl, ordinary_aluAcc s _ _⟩
  | .subH, _ => ⟨_, rfl, ordinary_aluAcc s _ _⟩
  | .subL, _ => ⟨_, rfl, ordinary_aluAcc s _ _⟩
  | .subAtHl, _ => ⟨_, rfl, ordinary_aluHlByte s _⟩
  | .subA, _ => ⟨_, rfl, ordinary_aluAcc s _ _⟩
  | .sbcAB, _ => ⟨_, rfl, ordinary_aluAcc s _ _⟩
  | .sbcAC, _ => ⟨_, rfl, ordinary_aluAcc s _ _⟩
  | .sbcAD, _ => ⟨_, rfl, ordinary_aluAcc s _ _⟩
  | .sbcAE, _ => ⟨_, rfl, ordinary_aluAcc s _ _⟩
  | .sbcAH, _ => ⟨_, rfl, ordinary_aluAcc s _ _⟩
  | .sbcAL, _ => ⟨_, rfl, ordinary_aluAcc s _ _⟩
  | .sbcAAtHl, _ => ⟨_, rfl, ordinary_aluHlByte s _⟩
  | .sbcAA, _ => ⟨_, rfl, ordinary_aluAcc s _ _⟩
  | .andB, _ => ⟨_, rfl, ordinary_aluAcc s _ _⟩
  | .andC, _ => ⟨_, rfl, ordinary_aluAcc s _ _⟩
  | .andD, _ => ⟨_, rfl, ordinary_aluAcc s _ _⟩
  | .andE, _ => ⟨_, rfl, ordinary_aluAcc s _ _⟩
  | .andH, _ => ⟨_, rfl, ordinary_aluAcc s _ _⟩
  | .andL, _ => ⟨_, rfl, ordinary_aluAcc s _ _⟩
  | .andAtHl, _ => ⟨_, rfl, ordinary_aluHlByte s _⟩
  | .andA, _ => ⟨_, rfl, ordinary_aluAcc s _ _⟩
  | .xorB, _ => ⟨_, rfl, ordinary_aluAcc s _ _⟩
  | .xorC, _ => ⟨_, rfl, ordinary_aluAcc s _ _⟩
  | .xorD, _ => ⟨_, rfl, ordinary_aluAcc s _ _⟩
  | .xorE, _ => ⟨_, rfl, ordinary_aluAcc s _ _⟩
  | .xorH, _ => ⟨_, rfl, ordinary_aluAcc s _ _⟩
  | .xorL, _ => ⟨_, rfl, ordinary_aluAcc s _ _⟩
  | .xorAtHl, _ => ⟨_, rfl, ordinary_aluHlByte s _⟩
  | .xorA, _ => ⟨_, rfl, ordinary_aluAcc s _ _⟩
  | .orB, _ => ⟨_, rfl, ordinary_aluAcc s _ _⟩
  | .orC, _ => ⟨_, rfl, ordinary_aluAcc s _ _⟩
  | .orD, _ => ⟨_, rfl, ordinary_aluAcc s _ _⟩
  | .orE, _ => ⟨_, rfl, ordinary_aluAcc s _ _⟩
  | .orH, _ => ⟨_, rfl, ordinary_aluAcc s _ _⟩
  | .orL, _ => ⟨_, rfl, ordinary_aluAcc s _ _⟩
  | .orAtHl, _ => ⟨_, rfl, ordinary_aluHlByte s _⟩
  | .orA, _ => ⟨_, rfl, ordinary_aluAcc s _ _⟩
  | .cpB, _ => ⟨_, rfl, ordinary_aluAcc s _ _⟩
  | .cpC, _ => ⟨_, rfl, ordinary_aluAcc s _ _⟩
  | .cpD, _ => ⟨_, rfl, ordinary_aluAcc s _ _⟩
  | .cpE, _ => ⟨_, rfl, ordinary_aluAcc s _ _⟩
  | .cpH, _ => ⟨_, rfl, ordinary_aluAcc s _ _⟩
  | .cpL, _ => ⟨_, rfl, ordinary_aluAcc s _ _⟩
  | .cpAtHl, _ => ⟨_, rfl, ordinary_aluHlByte s _⟩
  | .cpA, _ => ⟨_, rfl, ordinary_aluAcc s _ _⟩
  | .retNz, _ => ⟨_, rfl, ordinary_returnIf s _⟩
  | .popBc, _ => ⟨_, rfl, ordinary_popPair s _⟩
  | .jpNzN16 _, _ => ⟨_, rfl, ordinary_ite _ (ordinary_jumpTo s _) (.refl s)⟩
  | .jpN16 _, _ => ⟨_, rfl, ordinary_jumpTo s _⟩
  | .callNzN16 _, _ => ⟨_, rfl, ordinary_ite _ (ordinary_callTo s _) (.refl s)⟩
  | .pushBc, _ => ⟨_, rfl, ordinary_pushPair s _⟩
  | .addAN8 _, _ => ⟨_, rfl, ordinary_aluAcc s _ _⟩
  | .rst00, _ => ⟨_, rfl, ordinary_callTo s _⟩
  | .retZ, _ => ⟨_, rfl, ordinary_returnIf s _⟩
  | .ret, _ => ⟨_, rfl, ordinary_returnTo s⟩
  | .jpZN16 _, _ => ⟨_, rfl, ordinary_ite _ (ordinary_jumpTo s _) (.refl s)⟩
  | .prefixCb, h => absurd h Bool.noConfusion
  | .callZN16 _, _ => ⟨_, rfl, ordinary_ite _ (ordinary_callTo s _) (.refl s)⟩
  | .callN16 _, _ => ⟨_, rfl, ordinary_callTo s _⟩
  | .adcAN8 _, _ => ⟨_, rfl, ordinary_aluAcc s _ _⟩
  | .rst08, _ => ⟨_, rfl, ordinary_callTo s _⟩
  | .retNc, _ => ⟨_, rfl, ordinary_returnIf s _⟩
  | .popDe, _ => ⟨_, rfl, ordinary_popPair s _⟩
  | .jpNcN16 _, _ => ⟨_, rfl, ordinary_ite _ (ordinary_jumpTo s _) (.refl s)⟩
  | .illegal _, h => absurd h Bool.noConfusion
  | .callNcN16 _, _ => ⟨_, rfl, ordinary_ite _ (ordinary_callTo s _) (.refl s)⟩
  | .pushDe, _ => ⟨_, rfl, ordinary_pushPair s _⟩
  | .subN8 _, _ => ⟨_, rfl, ordinary_aluAcc s _ _⟩
  | .rst10, _ => ⟨_, rfl, ordinary_callTo s _⟩
  | .retC, _ => ⟨_, rfl, ordinary_returnIf s _⟩
  | .reti, h => absurd h Bool.noConfusion
  | .jpCN16 _, _ => ⟨_, rfl, ordinary_ite _ (ordinary_jumpTo s _) (.refl s)⟩
  | .callCN16 _, _ => ⟨_, rfl, ordinary_ite _ (ordinary_callTo s _) (.refl s)⟩
  | .sbcAN8 _, _ => ⟨_, rfl, ordinary_aluAcc s _ _⟩
  | .rst18, _ => ⟨_, rfl, ordinary_callTo s _⟩
  | .ldhAtN8A _, _ => ⟨_, rfl, ordinary_storeReg s _ _⟩
  | .popHl, _ => ⟨_, rfl, ordinary_popPair s _⟩
  | .ldhAtCA, _ => ⟨_, rfl, ordinary_storeReg s _ _⟩
  | .pushHl, _ => ⟨_, rfl, ordinary_pushPair s _⟩
  | .andN8 _, _ => ⟨_, rfl, ordinary_aluAcc s _ _⟩
  | .rst20, _ => ⟨_, rfl, ordinary_callTo s _⟩
  | .addSpE8 _, _ => ⟨_, rfl, ((ordinary_setSpRelFlags s _).trans (ordinary_sp _ _)).trans (ordinary_internals _ _)⟩
  | .jpHl, _ => ⟨_, rfl, ordinary_pc s _⟩
  | .ldAtN16A _, _ => ⟨_, rfl, ordinary_storeReg s _ _⟩
  | .xorN8 _, _ => ⟨_, rfl, ordinary_aluAcc s _ _⟩
  | .rst28, _ => ⟨_, rfl, ordinary_callTo s _⟩
  | .ldhAAtN8 _, _ => ⟨_, rfl, ordinary_loadReg s _ _⟩
  | .popAf, _ => ⟨_, rfl, ordinary_popPair s _⟩
  | .ldhAAtC, _ => ⟨_, rfl, ordinary_loadReg s _ _⟩
  | .di, h => absurd h Bool.noConfusion
  | .pushAf, _ => ⟨_, rfl, ordinary_pushPair s _⟩
  | .orN8 _, _ => ⟨_, rfl, ordinary_aluAcc s _ _⟩
  | .rst30, _ => ⟨_, rfl, ordinary_callTo s _⟩
  | .ldHlSpE8 _, _ => ⟨_, rfl, ((ordinary_setHl s _).trans (ordinary_setSpRelFlags _ _)).trans (ordinary_internal _)⟩
  | .ldSpHl, _ => ⟨_, rfl, (ordinary_sp s _).trans (ordinary_internal _)⟩
  | .ldAAtN16 _, _ => ⟨_, rfl, ordinary_loadReg s _ _⟩
  | .ei, h => absurd h Bool.noConfusion
  | .cpN8 _, _ => ⟨_, rfl, ordinary_aluAcc s _ _⟩
  | .rst38, _ => ⟨_, rfl, ordinary_callTo s _⟩
  | .rlcB, _ => ⟨_, rfl, ordinary_shiftReg8 s _ _⟩
  | .rlcC, _ => ⟨_, rfl, ordinary_shiftReg8 s _ _⟩
  | .rlcD, _ => ⟨_, rfl, ordinary_shiftReg8 s _ _⟩
  | .rlcE, _ => ⟨_, rfl, ordinary_shiftReg8 s _ _⟩
  | .rlcH, _ => ⟨_, rfl, ordinary_shiftReg8 s _ _⟩
  | .rlcL, _ => ⟨_, rfl, ordinary_shiftReg8 s _ _⟩
  | .rlcAtHl, _ => ⟨_, rfl, ordinary_shiftHlByte s _⟩
  | .rlcA, _ => ⟨_, rfl, ordinary_shiftReg8 s _ _⟩
  | .rrcB, _ => ⟨_, rfl, ordinary_shiftReg8 s _ _⟩
  | .rrcC, _ => ⟨_, rfl, ordinary_shiftReg8 s _ _⟩
  | .rrcD, _ => ⟨_, rfl, ordinary_shiftReg8 s _ _⟩
  | .rrcE, _ => ⟨_, rfl, ordinary_shiftReg8 s _ _⟩
  | .rrcH, _ => ⟨_, rfl, ordinary_shiftReg8 s _ _⟩
  | .rrcL, _ => ⟨_, rfl, ordinary_shiftReg8 s _ _⟩
  | .rrcAtHl, _ => ⟨_, rfl, ordinary_shiftHlByte s _⟩
  | .rrcA, _ => ⟨_, rfl, ordinary_shiftReg8 s _ _⟩
  | .rlB, _ => ⟨_, rfl, ordinary_shiftReg8 s _ _⟩
  | .rlC, _ => ⟨_, rfl, ordinary_shiftReg8 s _ _⟩
  | .rlD, _ => ⟨_, rfl, ordinary_shiftReg8 s _ _⟩
  | .rlE, _ => ⟨_, rfl, ordinary_shiftReg8 s _ _⟩
  | .rlH, _ => ⟨_, rfl, ordinary_shiftReg8 s _ _⟩
  | .rlL, _ => ⟨_, rfl, ordinary_shiftReg8 s _ _⟩
  | .rlAtHl, _ => ⟨_, rfl, ordinary_shiftHlByte s _⟩
  | .rlA, _ => ⟨_, rfl, ordinary_shiftReg8 s _ _⟩
  | .rrB, _ => ⟨_, rfl, ordinary_shiftReg8 s _ _⟩
  | .rrC, _ => ⟨_, rfl, ordinary_shiftReg8 s _ _⟩
  | .rrD, _ => ⟨_, rfl, ordinary_shiftReg8 s _ _⟩
  | .rrE, _ => ⟨_, rfl, ordinary_shiftReg8 s _ _⟩
  | .rrH, _ => ⟨_, rfl, ordinary_shiftReg8 s _ _⟩
  | .rrL, _ => ⟨_, rfl, ordinary_shiftReg8 s _ _⟩
  | .rrAtHl, _ => ⟨_, rfl, ordinary_shiftHlByte s _⟩
  | .rrA, _ => ⟨_, rfl, ordinary_shiftReg8 s _ _⟩
  | .slaB, _ => ⟨_, rfl, ordinary_shiftReg8 s _ _⟩
  | .slaC, _ => ⟨_, rfl, ordinary_shiftReg8 s _ _⟩
  | .slaD, _ => ⟨_, rfl, ordinary_shiftReg8 s _ _⟩
  | .slaE, _ => ⟨_, rfl, ordinary_shiftReg8 s _ _⟩
  | .slaH, _ => ⟨_, rfl, ordinary_shiftReg8 s _ _⟩
  | .slaL, _ => ⟨_, rfl, ordinary_shiftReg8 s _ _⟩
  | .slaAtHl, _ => ⟨_, rfl, ordinary_shiftHlByte s _⟩
  | .slaA, _ => ⟨_, rfl, ordinary_shiftReg8 s _ _⟩
  | .sraB, _ => ⟨_, rfl, ordinary_shiftReg8 s _ _⟩
  | .sraC, _ => ⟨_, rfl, ordinary_shiftReg8 s _ _⟩
  | .sraD, _ => ⟨_, rfl, ordinary_shiftReg8 s _ _⟩
  | .sraE, _ => ⟨_, rfl, ordinary_shiftReg8 s _ _⟩
  | .sraH, _ => ⟨_, rfl, ordinary_shiftReg8 s _ _⟩
  | .sraL, _ => ⟨_, rfl, ordinary_shiftReg8 s _ _⟩
  | .sraAtHl, _ => ⟨_, rfl, ordinary_shiftHlByte s _⟩
  | .sraA, _ => ⟨_, rfl, ordinary_shiftReg8 s _ _⟩
  | .swapB, _ => ⟨_, rfl, ordinary_shiftReg8 s _ _⟩
  | .swapC, _ => ⟨_, rfl, ordinary_shiftReg8 s _ _⟩
  | .swapD, _ => ⟨_, rfl, ordinary_shiftReg8 s _ _⟩
  | .swapE, _ => ⟨_, rfl, ordinary_shiftReg8 s _ _⟩
  | .swapH, _ => ⟨_, rfl, ordinary_shiftReg8 s _ _⟩
  | .swapL, _ => ⟨_, rfl, ordinary_shiftReg8 s _ _⟩
  | .swapAtHl, _ => ⟨_, rfl, ordinary_shiftHlByte s _⟩
  | .swapA, _ => ⟨_, rfl, ordinary_shiftReg8 s _ _⟩
  | .srlB, _ => ⟨_, rfl, ordinary_shiftReg8 s _ _⟩
  | .srlC, _ => ⟨_, rfl, ordinary_shiftReg8 s _ _⟩
  | .srlD, _ => ⟨_, rfl, ordinary_shiftReg8 s _ _⟩
  | .srlE, _ => ⟨_, rfl, ordinary_shiftReg8 s _ _⟩
  | .srlH, _ => ⟨_, rfl, ordinary_shiftReg8 s _ _⟩
  | .srlL, _ => ⟨_, rfl, ordinary_shiftReg8 s _ _⟩
  | .srlAtHl, _ => ⟨_, rfl, ordinary_shiftHlByte s _⟩
  | .srlA, _ => ⟨_, rfl, ordinary_shiftReg8 s _ _⟩
  | .bit0B, _ => ⟨_, rfl, ordinary_setBitTestFlags s _ _⟩
  | .bit0C, _ => ⟨_, rfl, ordinary_setBitTestFlags s _ _⟩
  | .bit0D, _ => ⟨_, rfl, ordinary_setBitTestFlags s _ _⟩
  | .bit0E, _ => ⟨_, rfl, ordinary_setBitTestFlags s _ _⟩
  | .bit0H, _ => ⟨_, rfl, ordinary_setBitTestFlags s _ _⟩
  | .bit0L, _ => ⟨_, rfl, ordinary_setBitTestFlags s _ _⟩
  | .bit0AtHl, _ => ⟨_, rfl, ordinary_bitHlByte s _⟩
  | .bit0A, _ => ⟨_, rfl, ordinary_setBitTestFlags s _ _⟩
  | .bit1B, _ => ⟨_, rfl, ordinary_setBitTestFlags s _ _⟩
  | .bit1C, _ => ⟨_, rfl, ordinary_setBitTestFlags s _ _⟩
  | .bit1D, _ => ⟨_, rfl, ordinary_setBitTestFlags s _ _⟩
  | .bit1E, _ => ⟨_, rfl, ordinary_setBitTestFlags s _ _⟩
  | .bit1H, _ => ⟨_, rfl, ordinary_setBitTestFlags s _ _⟩
  | .bit1L, _ => ⟨_, rfl, ordinary_setBitTestFlags s _ _⟩
  | .bit1AtHl, _ => ⟨_, rfl, ordinary_bitHlByte s _⟩
  | .bit1A, _ => ⟨_, rfl, ordinary_setBitTestFlags s _ _⟩
  | .bit2B, _ => ⟨_, rfl, ordinary_setBitTestFlags s _ _⟩
  | .bit2C, _ => ⟨_, rfl, ordinary_setBitTestFlags s _ _⟩
  | .bit2D, _ => ⟨_, rfl, ordinary_setBitTestFlags s _ _⟩
  | .bit2E, _ => ⟨_, rfl, ordinary_setBitTestFlags s _ _⟩
  | .bit2H, _ => ⟨_, rfl, ordinary_setBitTestFlags s _ _⟩
  | .bit2L, _ => ⟨_, rfl, ordinary_setBitTestFlags s _ _⟩
  | .bit2AtHl, _ => ⟨_, rfl, ordinary_bitHlByte s _⟩
  | .bit2A, _ => ⟨_, rfl, ordinary_setBitTestFlags s _ _⟩
  | .bit3B, _ => ⟨_, rfl, ordinary_setBitTestFlags s _ _⟩
  | .bit3C, _ => ⟨_, rfl, ordinary_setBitTestFlags s _ _⟩
  | .bit3D, _ => ⟨_, rfl, ordinary_setBitTestFlags s _ _⟩
  | .bit3E, _ => ⟨_, rfl, ordinary_setBitTestFlags s _ _⟩
  | .bit3H, _ => ⟨_, rfl, ordinary_setBitTestFlags s _ _⟩
  | .bit3L, _ => ⟨_, rfl, ordinary_setBitTestFlags s _ _⟩
  | .bit3AtHl, _ => ⟨_, rfl, ordinary_bitHlByte s _⟩
  | .bit3A, _ => ⟨_, rfl, ordinary_setBitTestFlags s _ _⟩
  | .bit4B, _ => ⟨_, rfl, ordinary_setBitTestFlags s _ _⟩
  | .bit4C, _ => ⟨_, rfl, ordinary_setBitTestFlags s _ _⟩
  | .bit4D, _ => ⟨_, rfl, ordinary_setBitTestFlags s _ _⟩
  | .bit4E, _ => ⟨_, rfl, ordinary_setBitTestFlags s _ _⟩
  | .bit4H, _ => ⟨_, rfl, ordinary_setBitTestFlags s _ _⟩
  | .bit4L, _ => ⟨_, rfl, ordinary_setBitTestFlags s _ _⟩
  | .bit4AtHl, _ => ⟨_, rfl, ordinary_bitHlByte s _⟩
  | .bit4A, _ => ⟨_, rfl, ordinary_setBitTestFlags s _ _⟩
  | .bit5B, _ => ⟨_, rfl, ordinary_setBitTestFlags s _ _⟩
  | .bit5C, _ => ⟨_, rfl, ordinary_setBitTestFlags s _ _⟩
  | .bit5D, _ => ⟨_, rfl, ordinary_setBitTestFlags s _ _⟩
  | .bit5E, _ => ⟨_, rfl, ordinary_setBitTestFlags s _ _⟩
  | .bit5H, _ => ⟨_, rfl, ordinary_setBitTestFlags s _ _⟩
  | .bit5L, _ => ⟨_, rfl, ordinary_setBitTestFlags s _ _⟩
  | .bit5AtHl, _ => ⟨_, rfl, ordinary_bitHlByte s _⟩
  | .bit5A, _ => ⟨_, rfl, ordinary_setBitTestFlags s _ _⟩
  | .bit6B, _ => ⟨_, rfl, ordinary_setBitTestFlags s _ _⟩
  | .bit6C, _ => ⟨_, rfl, ordinary_setBitTestFlags s _ _⟩
  | .bit6D, _ => ⟨_, rfl, ordinary_setBitTestFlags s _ _⟩
  | .bit6E, _ => ⟨_, rfl, ordinary_setBitTestFlags s _ _⟩
  | .bit6H, _ => ⟨_, rfl, ordinary_setBitTestFlags s _ _⟩
  | .bit6L, _ => ⟨_, rfl, ordinary_setBitTestFlags s _ _⟩
  | .bit6AtHl, _ => ⟨_, rfl, ordinary_bitHlByte s _⟩
  | .bit6A, _ => ⟨_, rfl, ordinary_setBitTestFlags s _ _⟩
  | .bit7B, _ => ⟨_, rfl, ordinary_setBitTestFlags s _ _⟩
  | .bit7C, _ => ⟨_, rfl, ordinary_setBitTestFlags s _ _⟩
  | .bit7D, _ => ⟨_, rfl, ordinary_setBitTestFlags s _ _⟩
  | .bit7E, _ => ⟨_, rfl, ordinary_setBitTestFlags s _ _⟩
  | .bit7H, _ => ⟨_, rfl, ordinary_setBitTestFlags s _ _⟩
  | .bit7L, _ => ⟨_, rfl, ordinary_setBitTestFlags s _ _⟩
  | .bit7AtHl, _ => ⟨_, rfl, ordinary_bitHlByte s _⟩
  | .bit7A, _ => ⟨_, rfl, ordinary_setBitTestFlags s _ _⟩
  | .res0B, _ => ⟨_, rfl, ordinary_writeReg s _ _⟩
  | .res0C, _ => ⟨_, rfl, ordinary_writeReg s _ _⟩
  | .res0D, _ => ⟨_, rfl, ordinary_writeReg s _ _⟩
  | .res0E, _ => ⟨_, rfl, ordinary_writeReg s _ _⟩
  | .res0H, _ => ⟨_, rfl, ordinary_writeReg s _ _⟩
  | .res0L, _ => ⟨_, rfl, ordinary_writeReg s _ _⟩
  | .res0AtHl, _ => ⟨_, rfl, ordinary_modifyHl s _⟩
  | .res0A, _ => ⟨_, rfl, ordinary_writeReg s _ _⟩
  | .res1B, _ => ⟨_, rfl, ordinary_writeReg s _ _⟩
  | .res1C, _ => ⟨_, rfl, ordinary_writeReg s _ _⟩
  | .res1D, _ => ⟨_, rfl, ordinary_writeReg s _ _⟩
  | .res1E, _ => ⟨_, rfl, ordinary_writeReg s _ _⟩
  | .res1H, _ => ⟨_, rfl, ordinary_writeReg s _ _⟩
  | .res1L, _ => ⟨_, rfl, ordinary_writeReg s _ _⟩
  | .res1AtHl, _ => ⟨_, rfl, ordinary_modifyHl s _⟩
  | .res1A, _ => ⟨_, rfl, ordinary_writeReg s _ _⟩
  | .res2B, _ => ⟨_, rfl, ordinary_writeReg s _ _⟩
  | .res2C, _ => ⟨_, rfl, ordinary_writeReg s _ _⟩
  | .res2D, _ => ⟨_, rfl, ordinary_writeReg s _ _⟩
  | .res2E, _ => ⟨_, rfl, ordinary_writeReg s _ _⟩
  | .res2H, _ => ⟨_, rfl, ordinary_writeReg s _ _⟩
  | .res2L, _ => ⟨_, rfl, ordinary_writeReg s _ _⟩
  | .res2AtHl, _ => ⟨_, rfl, ordinary_modifyHl s _⟩
  | .res2A, _ => ⟨_, rfl, ordinary_writeReg s _ _⟩
  | .res3B, _ => ⟨_, rfl, ordinary_writeReg s _ _⟩
  | .res3C, _ => ⟨_, rfl, ordinary_writeReg s _ _⟩
  | .res3D, _ => ⟨_, rfl, ordinary_writeReg s _ _⟩
  | .res3E, _ => ⟨_, rfl, ordinary_writeReg s _ _⟩
  | .res3H, _ => ⟨_, rfl, ordinary_writeReg s _ _⟩
  | .res3L, _ => ⟨_, rfl, ordinary_writeReg s _ _⟩
  | .res3AtHl, _ => ⟨_, rfl, ordinary_modifyHl s _⟩
  | .res3A, _ => ⟨_, rfl, ordinary_writeReg s _ _⟩
  | .res4B, _ => ⟨_, rfl, ordinary_writeReg s _ _⟩
  | .res4C, _ => ⟨_, rfl, ordinary_writeReg s _ _⟩
  | .res4D, _ => ⟨_, rfl, ordinary_writeReg s _ _⟩
  | .res4E, _ => ⟨_, rfl, ordinary_writeReg s _ _⟩
  | .res4H, _ => ⟨_, rfl, ordinary_writeReg s _ _⟩
  | .res4L, _ => ⟨_, rfl, ordinary_writeReg s _ _⟩
  | .res4AtHl, _ => ⟨_, rfl, ordinary_modifyHl s _⟩
  | .res4A, _ => ⟨_, rfl, ordinary_writeReg s _ _⟩
  | .res5B, _ => ⟨_, rfl, ordinary_writeReg s _ _⟩
  | .res5C, _ => ⟨_, rfl, ordinary_writeReg s _ _⟩
  | .res5D, _ => ⟨_, rfl, ordinary_writeReg s _ _⟩
  | .res5E, _ => ⟨_, rfl, ordinary_writeReg s _ _⟩
  | .res5H, _ => ⟨_, rfl, ordinary_writeReg s _ _⟩
  | .res5L, _ => ⟨_, rfl, ordinary_writeReg s _ _⟩
  | .res5AtHl, _ => ⟨_, rfl, ordinary_modifyHl s _⟩
  | .res5A, _ => ⟨_, rfl, ordinary_writeReg s _ _⟩
  | .res6B, _ => ⟨_, rfl, ordinary_writeReg s _ _⟩
  | .res6C, _ => ⟨_, rfl, ordinary_writeReg s _ _⟩
  | .res6D, _ => ⟨_, rfl, ordinary_writeReg s _ _⟩
  | .res6E, _ => ⟨_, rfl, ordinary_writeReg s _ _⟩
  | .res6H, _ => ⟨_, rfl, ordinary_writeReg s _ _⟩
  | .res6L, _ => ⟨_, rfl, ordinary_writeReg s _ _⟩
  | .res6AtHl, _ => ⟨_, rfl, ordinary_modifyHl s _⟩
  | .res6A, _ => ⟨_, rfl, ordinary_writeReg s _ _⟩
  | .res7B, _ => ⟨_, rfl, ordinary_writeReg s _ _⟩
  | .res7C, _ => ⟨_, rfl, ordinary_writeReg s _ _⟩
  | .res7D, _ => ⟨_, rfl, ordinary_writeReg s _ _⟩
  | .res7E, _ => ⟨_, rfl, ordinary_writeReg s _ _⟩
  | .res7H, _ => ⟨_, rfl, ordinary_writeReg s _ _⟩
  | .res7L, _ => ⟨_, rfl, ordinary_writeReg s _ _⟩
  | .res7AtHl, _ => ⟨_, rfl, ordinary_modifyHl s _⟩
  | .res7A, _ => ⟨_, rfl, ordinary_writeReg s _ _⟩
  | .set0B, _ => ⟨_, rfl, ordinary_writeReg s _ _⟩
  | .set0C, _ => ⟨_, rfl, ordinary_writeReg s _ _⟩
  | .set0D, _ => ⟨_, rfl, ordinary_writeReg s _ _⟩
  | .set0E, _ => ⟨_, rfl, ordinary_writeReg s _ _⟩
  | .set0H, _ => ⟨_, rfl, ordinary_writeReg s _ _⟩
  | .set0L, _ => ⟨_, rfl, ordinary_writeReg s _ _⟩
  | .set0AtHl, _ => ⟨_, rfl, ordinary_modifyHl s _⟩
  | .set0A, _ => ⟨_, rfl, ordinary_writeReg s _ _⟩
  | .set1B, _ => ⟨_, rfl, ordinary_writeReg s _ _⟩
  | .set1C, _ => ⟨_, rfl, ordinary_writeReg s _ _⟩
  | .set1D, _ => ⟨_, rfl, ordinary_writeReg s _ _⟩
  | .set1E, _ => ⟨_, rfl, ordinary_writeReg s _ _⟩
  | .set1H, _ => ⟨_, rfl, ordinary_writeReg s _ _⟩
  | .set1L, _ => ⟨_, rfl, ordinary_writeReg s _ _⟩
  | .set1AtHl, _ => ⟨_, rfl, ordinary_modifyHl s _⟩
  | .set1A, _ => ⟨_, rfl, ordinary_writeReg s _ _⟩
  | .set2B, _ => ⟨_, rfl, ordinary_writeReg s _ _⟩
  | .set2C, _ => ⟨_, rfl, ordinary_writeReg s _ _⟩
  | .set2D, _ => ⟨_, rfl, ordinary_writeReg s _ _⟩
  | .set2E, _ => ⟨_, rfl, ordinary_writeReg s _ _⟩
  | .set2H, _ => ⟨_, rfl, ordinary_writeReg s _ _⟩
  | .set2L, _ => ⟨_, rfl, ordinary_writeReg s _ _⟩
  | .set2AtHl, _ => ⟨_, rfl, ordinary_modifyHl s _⟩
  | .set2A, _ => ⟨_, rfl, ordinary_writeReg s _ _⟩
  | .set3B, _ => ⟨_, rfl, ordinary_writeReg s _ _⟩
  | .set3C, _ => ⟨_, rfl, ordinary_writeReg s _ _⟩
  | .set3D, _ => ⟨_, rfl, ordinary_writeReg s _ _⟩
  | .set3E, _ => ⟨_, rfl, ordinary_writeReg s _ _⟩
  | .set3H, _ => ⟨_, rfl, ordinary_writeReg s _ _⟩
  | .set3L, _ => ⟨_, rfl, ordinary_writeReg s _ _⟩
  | .set3AtHl, _ => ⟨_, rfl, ordinary_modifyHl s _⟩
  | .set3A, _ => ⟨_, rfl, ordinary_writeReg s _ _⟩
  | .set4B, _ => ⟨_, rfl, ordinary_writeReg s _ _⟩
  | .set4C, _ => ⟨_, rfl, ordinary_writeReg s _ _⟩
  | .set4D, _ => ⟨_, rfl, ordinary_writeReg s _ _⟩
  | .set4E, _ => ⟨_, rfl, ordinary_writeReg s _ _⟩
  | .set4H, _ => ⟨_, rfl, ordinary_writeReg s _ _⟩
  | .set4L, _ => ⟨_, rfl, ordinary_writeReg s _ _⟩
  | .set4AtHl, _ => ⟨_, rfl, ordinary_modifyHl s _⟩
  | .set4A, _ => ⟨_, rfl, ordinary_writeReg s _ _⟩
  | .set5B, _ => ⟨_, rfl, ordinary_writeReg s _ _⟩
  | .set5C, _ => ⟨_, rfl, ordinary_writeReg s _ _⟩
  | .set5D, _ => ⟨_, rfl, ordinary_writeReg s _ _⟩
  | .set5E, _ => ⟨_, rfl, ordinary_writeReg s _ _⟩
  | .set5H, _ => ⟨_, rfl, ordinary_writeReg s _ _⟩
  | .set5L, _ => ⟨_, rfl, ordinary_writeReg s _ _⟩
  | .set5AtHl, _ => ⟨_, rfl, ordinary_modifyHl s _⟩
  | .set5A, _ => ⟨_, rfl, ordinary_writeReg s _ _⟩
  | .set6B, _ => ⟨_, rfl, ordinary_writeReg s _ _⟩
  | .set6C, _ => ⟨_, rfl, ordinary_writeReg s _ _⟩
  | .set6D, _ => ⟨_, rfl, ordinary_writeReg s _ _⟩
  | .set6E, _ => ⟨_, rfl, ordinary_writeReg s _ _⟩
  | .set6H, _ => ⟨_, rfl, ordinary_writeReg s _ _⟩
  | .set6L, _ => ⟨_, rfl, ordinary_writeReg s _ _⟩
  | .set6AtHl, _ => ⟨_, rfl, ordinary_modifyHl s _⟩
  | .set6A, _ => ⟨_, rfl, ordinary_writeReg s _ _⟩
  | .set7B, _ => ⟨_, rfl, ordinary_writeReg s _ _⟩
  | .set7C, _ => ⟨_, rfl, ordinary_writeReg s _ _⟩
  | .set7D, _ => ⟨_, rfl, ordinary_writeReg s _ _⟩
  | .set7E, _ => ⟨_, rfl, ordinary_writeReg s _ _⟩
  | .set7H, _ => ⟨_, rfl, ordinary_writeReg s _ _⟩
  | .set7L, _ => ⟨_, rfl, ordinary_writeReg s _ _⟩
  | .set7AtHl, _ => ⟨_, rfl, ordinary_modifyHl s _⟩
  | .set7A, _ => ⟨_, rfl, ordinary_writeReg s _ _⟩

/-- No instruction of the second table is one of the seven. -/
theorem special_secondEntry (op : Byte) : special (secondEntry op) = false := by
  revert op; decide +kernel

/-- PREFIX CB answers what the second table's instruction does after one more fetch, which keeps the invariants and the
run state (R276). -/
theorem execPrefixCb_ordinary (s : State) : ∃ t, exec .prefixCb s = .next t ∧ Ordinary s t := by
  obtain ⟨t, h, k⟩ := exec_ordinary (fetch8 s).2 _ (special_secondEntry (fetch8 s).1)
  exact ⟨t, (execSecond_eq _ _).trans h, (ordinary_fetch8 s).trans k⟩

/-- STOP is refused or steps PC, by `STOP_MODE` (R273). -/
theorem execStop_cases (s : State) :
    (s.params.stopMode = .nop ∧ exec .stop s = .next { s with pc := s.pc + 1 }) ∨
    (s.params.stopMode = .refuse ∧ exec .stop s = .refused .stopRefused) := by
  show _ ∧ execStop s = _ ∨ _ ∧ execStop s = _
  unfold execStop
  cases s.params.stopMode
  · exact .inr ⟨rfl, rfl⟩
  · exact .inl ⟨rfl, rfl⟩

theorem returnFromInterrupt_sameBuild (s : State) : sameBuild s (returnFromInterrupt s) := by
  simp [sameBuild, returnFromInterrupt]

/-- What ends a step keeps the parameters (R43). -/
theorem endOfStep_sameBuild (s : State) : sameBuild s (endOfStep s) := by
  have h : sameBuild s (interruptCheck s) := by
    unfold interruptCheck
    repeat' split
    all_goals first | exact ⟨rfl, rfl⟩ | simp [sameBuild, dispatchInterrupt]
  unfold endOfStep promoteEnable
  generalize interruptCheck s = t at h ⊢
  split <;> exact h

/-- A halted tick keeps the parameters (R43). -/
theorem haltedTick_sameBuild (s : State) : sameBuild s (haltedTick s) := by
  have h : sameBuild s (advance 1 s) := by simp [sameBuild]
  unfold haltedTick
  generalize advance 1 s = t at h ⊢
  simp only
  split <;> exact h

/-- Every instruction that answers a next state keeps the parameters (R43). -/
theorem exec_sameBuild {s t : State} {i : Instr} (h : exec i s = .next t) : sameBuild s t := by
  have key : ∀ {u}, exec i s = .next u → sameBuild s u → sameBuild s t := by
    intro u hu k; rw [hu] at h; cases h; exact k
  by_cases hi : special i = false
  · obtain ⟨u, hu, k⟩ := exec_ordinary s i hi
    exact key hu k.build
  · cases i <;> first | exact absurd rfl hi | skip
    case prefixCb => obtain ⟨u, hu, k⟩ := execPrefixCb_ordinary s; exact key hu k.build
    case stop =>
      rcases execStop_cases s with ⟨-, hu⟩ | ⟨-, hu⟩
      · exact key hu ⟨rfl, rfl⟩
      · rw [hu] at h; cases h
    case reti => exact key rfl (returnFromInterrupt_sameBuild s)
    all_goals exact key rfl ⟨rfl, rfl⟩

end Sys2Proof.Machine
end

