-- ==== Sys2Proof/Laws/PerInstr.lean ====
section
/-! SUPPORT. The family Reached: the decoder reaches every well-formed instruction from bytes written out from the
encoding that spec/opcode_table.json gives its row. -/

namespace Sys2Proof.Laws.Reached

open Sys2Proof

/-- Some byte string decodes to exactly this instruction. -/
def Statement (i : Instr) : Prop := i.wellFormed = true → ∃ bytes, decode bytes = .ok (i, [])

/-- A word is its high byte, then its low byte. -/
theorem word_halves (n : Word) : n.extractLsb' 8 8 ++ n.extractLsb' 0 8 = n := by
  apply BitVec.eq_of_toNat_eq
  simp only [BitVec.toNat_append, BitVec.extractLsb'_toNat, Nat.shiftRight_zero]
  rw [← Nat.shiftLeft_add_eq_or_of_lt (Nat.mod_lt _ (by decide)), Nat.shiftLeft_eq, Nat.shiftRight_eq_div_pow]
  have := n.isLt
  omega

/-- An opcode with a 16-bit operand decodes from the operand's low byte, then its high byte. -/
theorem decode_n16 {op : Byte} {k : Word → Instr} (h : firstEntry op = .n16 k) (n : Word) :
    decode [op, n.extractLsb' 0 8, n.extractLsb' 8 8] = .ok (k n, []) := by
  simp only [decode, h, word_halves]

theorem nop : Statement .nop := fun _ => ⟨[0x00], rfl⟩

theorem ldBcN16 (n : Word) : Statement (.ldBcN16 n) := fun _ => ⟨_, decode_n16 (op := 0x01) rfl n⟩

theorem ldAtBcA : Statement .ldAtBcA := fun _ => ⟨[0x02], rfl⟩

theorem incBc : Statement .incBc := fun _ => ⟨[0x03], rfl⟩

theorem incB : Statement .incB := fun _ => ⟨[0x04], rfl⟩

theorem decB : Statement .decB := fun _ => ⟨[0x05], rfl⟩

theorem ldBN8 (n : Byte) : Statement (.ldBN8 n) := fun _ => ⟨[0x06, n], rfl⟩

theorem rlca : Statement .rlca := fun _ => ⟨[0x07], rfl⟩

theorem ldAtN16Sp (n : Word) : Statement (.ldAtN16Sp n) := fun _ => ⟨_, decode_n16 (op := 0x08) rfl n⟩

theorem addHlBc : Statement .addHlBc := fun _ => ⟨[0x09], rfl⟩

theorem ldAAtBc : Statement .ldAAtBc := fun _ => ⟨[0x0A], rfl⟩

theorem decBc : Statement .decBc := fun _ => ⟨[0x0B], rfl⟩

theorem incC : Statement .incC := fun _ => ⟨[0x0C], rfl⟩

theorem decC : Statement .decC := fun _ => ⟨[0x0D], rfl⟩

theorem ldCN8 (n : Byte) : Statement (.ldCN8 n) := fun _ => ⟨[0x0E, n], rfl⟩

theorem rrca : Statement .rrca := fun _ => ⟨[0x0F], rfl⟩

theorem stop : Statement .stop := fun _ => ⟨[0x10, 0x00], rfl⟩

theorem ldDeN16 (n : Word) : Statement (.ldDeN16 n) := fun _ => ⟨_, decode_n16 (op := 0x11) rfl n⟩

theorem ldAtDeA : Statement .ldAtDeA := fun _ => ⟨[0x12], rfl⟩

theorem incDe : Statement .incDe := fun _ => ⟨[0x13], rfl⟩

theorem incD : Statement .incD := fun _ => ⟨[0x14], rfl⟩

theorem decD : Statement .decD := fun _ => ⟨[0x15], rfl⟩

theorem ldDN8 (n : Byte) : Statement (.ldDN8 n) := fun _ => ⟨[0x16, n], rfl⟩

theorem rla : Statement .rla := fun _ => ⟨[0x17], rfl⟩

theorem jrE8 (e : Byte) : Statement (.jrE8 e) := fun _ => ⟨[0x18, e], rfl⟩

theorem addHlDe : Statement .addHlDe := fun _ => ⟨[0x19], rfl⟩

theorem ldAAtDe : Statement .ldAAtDe := fun _ => ⟨[0x1A], rfl⟩

theorem decDe : Statement .decDe := fun _ => ⟨[0x1B], rfl⟩

theorem incE : Statement .incE := fun _ => ⟨[0x1C], rfl⟩

theorem decE : Statement .decE := fun _ => ⟨[0x1D], rfl⟩

theorem ldEN8 (n : Byte) : Statement (.ldEN8 n) := fun _ => ⟨[0x1E, n], rfl⟩

theorem rra : Statement .rra := fun _ => ⟨[0x1F], rfl⟩

theorem jrNzE8 (e : Byte) : Statement (.jrNzE8 e) := fun _ => ⟨[0x20, e], rfl⟩

theorem ldHlN16 (n : Word) : Statement (.ldHlN16 n) := fun _ => ⟨_, decode_n16 (op := 0x21) rfl n⟩

theorem ldAtHlIncA : Statement .ldAtHlIncA := fun _ => ⟨[0x22], rfl⟩

theorem incHl : Statement .incHl := fun _ => ⟨[0x23], rfl⟩

theorem incH : Statement .incH := fun _ => ⟨[0x24], rfl⟩

theorem decH : Statement .decH := fun _ => ⟨[0x25], rfl⟩

theorem ldHN8 (n : Byte) : Statement (.ldHN8 n) := fun _ => ⟨[0x26, n], rfl⟩

theorem daa : Statement .daa := fun _ => ⟨[0x27], rfl⟩

theorem jrZE8 (e : Byte) : Statement (.jrZE8 e) := fun _ => ⟨[0x28, e], rfl⟩

theorem addHlHl : Statement .addHlHl := fun _ => ⟨[0x29], rfl⟩

theorem ldAAtHlInc : Statement .ldAAtHlInc := fun _ => ⟨[0x2A], rfl⟩

theorem decHl : Statement .decHl := fun _ => ⟨[0x2B], rfl⟩

theorem incL : Statement .incL := fun _ => ⟨[0x2C], rfl⟩

theorem decL : Statement .decL := fun _ => ⟨[0x2D], rfl⟩

theorem ldLN8 (n : Byte) : Statement (.ldLN8 n) := fun _ => ⟨[0x2E, n], rfl⟩

theorem cpl : Statement .cpl := fun _ => ⟨[0x2F], rfl⟩

theorem jrNcE8 (e : Byte) : Statement (.jrNcE8 e) := fun _ => ⟨[0x30, e], rfl⟩

theorem ldSpN16 (n : Word) : Statement (.ldSpN16 n) := fun _ => ⟨_, decode_n16 (op := 0x31) rfl n⟩

theorem ldAtHlDecA : Statement .ldAtHlDecA := fun _ => ⟨[0x32], rfl⟩

theorem incSp : Statement .incSp := fun _ => ⟨[0x33], rfl⟩

theorem incAtHl : Statement .incAtHl := fun _ => ⟨[0x34], rfl⟩

theorem decAtHl : Statement .decAtHl := fun _ => ⟨[0x35], rfl⟩

theorem ldAtHlN8 (n : Byte) : Statement (.ldAtHlN8 n) := fun _ => ⟨[0x36, n], rfl⟩

theorem scf : Statement .scf := fun _ => ⟨[0x37], rfl⟩

theorem jrCE8 (e : Byte) : Statement (.jrCE8 e) := fun _ => ⟨[0x38, e], rfl⟩

theorem addHlSp : Statement .addHlSp := fun _ => ⟨[0x39], rfl⟩

theorem ldAAtHlDec : Statement .ldAAtHlDec := fun _ => ⟨[0x3A], rfl⟩

theorem decSp : Statement .decSp := fun _ => ⟨[0x3B], rfl⟩

theorem incA : Statement .incA := fun _ => ⟨[0x3C], rfl⟩

theorem decA : Statement .decA := fun _ => ⟨[0x3D], rfl⟩

theorem ldAN8 (n : Byte) : Statement (.ldAN8 n) := fun _ => ⟨[0x3E, n], rfl⟩

theorem ccf : Statement .ccf := fun _ => ⟨[0x3F], rfl⟩

theorem ldBB : Statement .ldBB := fun _ => ⟨[0x40], rfl⟩

theorem ldBC : Statement .ldBC := fun _ => ⟨[0x41], rfl⟩

theorem ldBD : Statement .ldBD := fun _ => ⟨[0x42], rfl⟩

theorem ldBE : Statement .ldBE := fun _ => ⟨[0x43], rfl⟩

theorem ldBH : Statement .ldBH := fun _ => ⟨[0x44], rfl⟩

theorem ldBL : Statement .ldBL := fun _ => ⟨[0x45], rfl⟩

theorem ldBAtHl : Statement .ldBAtHl := fun _ => ⟨[0x46], rfl⟩

theorem ldBA : Statement .ldBA := fun _ => ⟨[0x47], rfl⟩

theorem ldCB : Statement .ldCB := fun _ => ⟨[0x48], rfl⟩

theorem ldCC : Statement .ldCC := fun _ => ⟨[0x49], rfl⟩

theorem ldCD : Statement .ldCD := fun _ => ⟨[0x4A], rfl⟩

theorem ldCE : Statement .ldCE := fun _ => ⟨[0x4B], rfl⟩

theorem ldCH : Statement .ldCH := fun _ => ⟨[0x4C], rfl⟩

theorem ldCL : Statement .ldCL := fun _ => ⟨[0x4D], rfl⟩

theorem ldCAtHl : Statement .ldCAtHl := fun _ => ⟨[0x4E], rfl⟩

theorem ldCA : Statement .ldCA := fun _ => ⟨[0x4F], rfl⟩

theorem ldDB : Statement .ldDB := fun _ => ⟨[0x50], rfl⟩

theorem ldDC : Statement .ldDC := fun _ => ⟨[0x51], rfl⟩

theorem ldDD : Statement .ldDD := fun _ => ⟨[0x52], rfl⟩

theorem ldDE : Statement .ldDE := fun _ => ⟨[0x53], rfl⟩

theorem ldDH : Statement .ldDH := fun _ => ⟨[0x54], rfl⟩

theorem ldDL : Statement .ldDL := fun _ => ⟨[0x55], rfl⟩

theorem ldDAtHl : Statement .ldDAtHl := fun _ => ⟨[0x56], rfl⟩

theorem ldDA : Statement .ldDA := fun _ => ⟨[0x57], rfl⟩

theorem ldEB : Statement .ldEB := fun _ => ⟨[0x58], rfl⟩

theorem ldEC : Statement .ldEC := fun _ => ⟨[0x59], rfl⟩

theorem ldED : Statement .ldED := fun _ => ⟨[0x5A], rfl⟩

theorem ldEE : Statement .ldEE := fun _ => ⟨[0x5B], rfl⟩

theorem ldEH : Statement .ldEH := fun _ => ⟨[0x5C], rfl⟩

theorem ldEL : Statement .ldEL := fun _ => ⟨[0x5D], rfl⟩

theorem ldEAtHl : Statement .ldEAtHl := fun _ => ⟨[0x5E], rfl⟩

theorem ldEA : Statement .ldEA := fun _ => ⟨[0x5F], rfl⟩

theorem ldHB : Statement .ldHB := fun _ => ⟨[0x60], rfl⟩

theorem ldHC : Statement .ldHC := fun _ => ⟨[0x61], rfl⟩

theorem ldHD : Statement .ldHD := fun _ => ⟨[0x62], rfl⟩

theorem ldHE : Statement .ldHE := fun _ => ⟨[0x63], rfl⟩

theorem ldHH : Statement .ldHH := fun _ => ⟨[0x64], rfl⟩

theorem ldHL : Statement .ldHL := fun _ => ⟨[0x65], rfl⟩

theorem ldHAtHl : Statement .ldHAtHl := fun _ => ⟨[0x66], rfl⟩

theorem ldHA : Statement .ldHA := fun _ => ⟨[0x67], rfl⟩

theorem ldLB : Statement .ldLB := fun _ => ⟨[0x68], rfl⟩

theorem ldLC : Statement .ldLC := fun _ => ⟨[0x69], rfl⟩

theorem ldLD : Statement .ldLD := fun _ => ⟨[0x6A], rfl⟩

theorem ldLE : Statement .ldLE := fun _ => ⟨[0x6B], rfl⟩

theorem ldLH : Statement .ldLH := fun _ => ⟨[0x6C], rfl⟩

theorem ldLL : Statement .ldLL := fun _ => ⟨[0x6D], rfl⟩

theorem ldLAtHl : Statement .ldLAtHl := fun _ => ⟨[0x6E], rfl⟩

theorem ldLA : Statement .ldLA := fun _ => ⟨[0x6F], rfl⟩

theorem ldAtHlB : Statement .ldAtHlB := fun _ => ⟨[0x70], rfl⟩

theorem ldAtHlC : Statement .ldAtHlC := fun _ => ⟨[0x71], rfl⟩

theorem ldAtHlD : Statement .ldAtHlD := fun _ => ⟨[0x72], rfl⟩

theorem ldAtHlE : Statement .ldAtHlE := fun _ => ⟨[0x73], rfl⟩

theorem ldAtHlH : Statement .ldAtHlH := fun _ => ⟨[0x74], rfl⟩

theorem ldAtHlL : Statement .ldAtHlL := fun _ => ⟨[0x75], rfl⟩

theorem halt : Statement .halt := fun _ => ⟨[0x76], rfl⟩

theorem ldAtHlA : Statement .ldAtHlA := fun _ => ⟨[0x77], rfl⟩

theorem ldAB : Statement .ldAB := fun _ => ⟨[0x78], rfl⟩

theorem ldAC : Statement .ldAC := fun _ => ⟨[0x79], rfl⟩

theorem ldAD : Statement .ldAD := fun _ => ⟨[0x7A], rfl⟩

theorem ldAE : Statement .ldAE := fun _ => ⟨[0x7B], rfl⟩

theorem ldAH : Statement .ldAH := fun _ => ⟨[0x7C], rfl⟩

theorem ldAL : Statement .ldAL := fun _ => ⟨[0x7D], rfl⟩

theorem ldAAtHl : Statement .ldAAtHl := fun _ => ⟨[0x7E], rfl⟩

theorem ldAA : Statement .ldAA := fun _ => ⟨[0x7F], rfl⟩

theorem addAB : Statement .addAB := fun _ => ⟨[0x80], rfl⟩

theorem addAC : Statement .addAC := fun _ => ⟨[0x81], rfl⟩

theorem addAD : Statement .addAD := fun _ => ⟨[0x82], rfl⟩

theorem addAE : Statement .addAE := fun _ => ⟨[0x83], rfl⟩

theorem addAH : Statement .addAH := fun _ => ⟨[0x84], rfl⟩

theorem addAL : Statement .addAL := fun _ => ⟨[0x85], rfl⟩

theorem addAAtHl : Statement .addAAtHl := fun _ => ⟨[0x86], rfl⟩

theorem addAA : Statement .addAA := fun _ => ⟨[0x87], rfl⟩

theorem adcAB : Statement .adcAB := fun _ => ⟨[0x88], rfl⟩

theorem adcAC : Statement .adcAC := fun _ => ⟨[0x89], rfl⟩

theorem adcAD : Statement .adcAD := fun _ => ⟨[0x8A], rfl⟩

theorem adcAE : Statement .adcAE := fun _ => ⟨[0x8B], rfl⟩

theorem adcAH : Statement .adcAH := fun _ => ⟨[0x8C], rfl⟩

theorem adcAL : Statement .adcAL := fun _ => ⟨[0x8D], rfl⟩

theorem adcAAtHl : Statement .adcAAtHl := fun _ => ⟨[0x8E], rfl⟩

theorem adcAA : Statement .adcAA := fun _ => ⟨[0x8F], rfl⟩

theorem subB : Statement .subB := fun _ => ⟨[0x90], rfl⟩

theorem subC : Statement .subC := fun _ => ⟨[0x91], rfl⟩

theorem subD : Statement .subD := fun _ => ⟨[0x92], rfl⟩

theorem subE : Statement .subE := fun _ => ⟨[0x93], rfl⟩

theorem subH : Statement .subH := fun _ => ⟨[0x94], rfl⟩

theorem subL : Statement .subL := fun _ => ⟨[0x95], rfl⟩

theorem subAtHl : Statement .subAtHl := fun _ => ⟨[0x96], rfl⟩

theorem subA : Statement .subA := fun _ => ⟨[0x97], rfl⟩

theorem sbcAB : Statement .sbcAB := fun _ => ⟨[0x98], rfl⟩

theorem sbcAC : Statement .sbcAC := fun _ => ⟨[0x99], rfl⟩

theorem sbcAD : Statement .sbcAD := fun _ => ⟨[0x9A], rfl⟩

theorem sbcAE : Statement .sbcAE := fun _ => ⟨[0x9B], rfl⟩

theorem sbcAH : Statement .sbcAH := fun _ => ⟨[0x9C], rfl⟩

theorem sbcAL : Statement .sbcAL := fun _ => ⟨[0x9D], rfl⟩

theorem sbcAAtHl : Statement .sbcAAtHl := fun _ => ⟨[0x9E], rfl⟩

theorem sbcAA : Statement .sbcAA := fun _ => ⟨[0x9F], rfl⟩

theorem andB : Statement .andB := fun _ => ⟨[0xA0], rfl⟩

theorem andC : Statement .andC := fun _ => ⟨[0xA1], rfl⟩

theorem andD : Statement .andD := fun _ => ⟨[0xA2], rfl⟩

theorem andE : Statement .andE := fun _ => ⟨[0xA3], rfl⟩

theorem andH : Statement .andH := fun _ => ⟨[0xA4], rfl⟩

theorem andL : Statement .andL := fun _ => ⟨[0xA5], rfl⟩

theorem andAtHl : Statement .andAtHl := fun _ => ⟨[0xA6], rfl⟩

theorem andA : Statement .andA := fun _ => ⟨[0xA7], rfl⟩

theorem xorB : Statement .xorB := fun _ => ⟨[0xA8], rfl⟩

theorem xorC : Statement .xorC := fun _ => ⟨[0xA9], rfl⟩

theorem xorD : Statement .xorD := fun _ => ⟨[0xAA], rfl⟩

theorem xorE : Statement .xorE := fun _ => ⟨[0xAB], rfl⟩

theorem xorH : Statement .xorH := fun _ => ⟨[0xAC], rfl⟩

theorem xorL : Statement .xorL := fun _ => ⟨[0xAD], rfl⟩

theorem xorAtHl : Statement .xorAtHl := fun _ => ⟨[0xAE], rfl⟩

theorem xorA : Statement .xorA := fun _ => ⟨[0xAF], rfl⟩

theorem orB : Statement .orB := fun _ => ⟨[0xB0], rfl⟩

theorem orC : Statement .orC := fun _ => ⟨[0xB1], rfl⟩

theorem orD : Statement .orD := fun _ => ⟨[0xB2], rfl⟩

theorem orE : Statement .orE := fun _ => ⟨[0xB3], rfl⟩

theorem orH : Statement .orH := fun _ => ⟨[0xB4], rfl⟩

theorem orL : Statement .orL := fun _ => ⟨[0xB5], rfl⟩

theorem orAtHl : Statement .orAtHl := fun _ => ⟨[0xB6], rfl⟩

theorem orA : Statement .orA := fun _ => ⟨[0xB7], rfl⟩

theorem cpB : Statement .cpB := fun _ => ⟨[0xB8], rfl⟩

theorem cpC : Statement .cpC := fun _ => ⟨[0xB9], rfl⟩

theorem cpD : Statement .cpD := fun _ => ⟨[0xBA], rfl⟩

theorem cpE : Statement .cpE := fun _ => ⟨[0xBB], rfl⟩

theorem cpH : Statement .cpH := fun _ => ⟨[0xBC], rfl⟩

theorem cpL : Statement .cpL := fun _ => ⟨[0xBD], rfl⟩

theorem cpAtHl : Statement .cpAtHl := fun _ => ⟨[0xBE], rfl⟩

theorem cpA : Statement .cpA := fun _ => ⟨[0xBF], rfl⟩

theorem retNz : Statement .retNz := fun _ => ⟨[0xC0], rfl⟩

theorem popBc : Statement .popBc := fun _ => ⟨[0xC1], rfl⟩

theorem jpNzN16 (n : Word) : Statement (.jpNzN16 n) := fun _ => ⟨_, decode_n16 (op := 0xC2) rfl n⟩

theorem jpN16 (n : Word) : Statement (.jpN16 n) := fun _ => ⟨_, decode_n16 (op := 0xC3) rfl n⟩

theorem callNzN16 (n : Word) : Statement (.callNzN16 n) := fun _ => ⟨_, decode_n16 (op := 0xC4) rfl n⟩

theorem pushBc : Statement .pushBc := fun _ => ⟨[0xC5], rfl⟩

theorem addAN8 (n : Byte) : Statement (.addAN8 n) := fun _ => ⟨[0xC6, n], rfl⟩

theorem rst00 : Statement .rst00 := fun _ => ⟨[0xC7], rfl⟩

theorem retZ : Statement .retZ := fun _ => ⟨[0xC8], rfl⟩

theorem ret : Statement .ret := fun _ => ⟨[0xC9], rfl⟩

theorem jpZN16 (n : Word) : Statement (.jpZN16 n) := fun _ => ⟨_, decode_n16 (op := 0xCA) rfl n⟩

theorem prefixCb : Statement .prefixCb := fun _ => ⟨[0xCB], rfl⟩

theorem callZN16 (n : Word) : Statement (.callZN16 n) := fun _ => ⟨_, decode_n16 (op := 0xCC) rfl n⟩

theorem callN16 (n : Word) : Statement (.callN16 n) := fun _ => ⟨_, decode_n16 (op := 0xCD) rfl n⟩

theorem adcAN8 (n : Byte) : Statement (.adcAN8 n) := fun _ => ⟨[0xCE, n], rfl⟩

theorem rst08 : Statement .rst08 := fun _ => ⟨[0xCF], rfl⟩

theorem retNc : Statement .retNc := fun _ => ⟨[0xD0], rfl⟩

theorem popDe : Statement .popDe := fun _ => ⟨[0xD1], rfl⟩

theorem jpNcN16 (n : Word) : Statement (.jpNcN16 n) := fun _ => ⟨_, decode_n16 (op := 0xD2) rfl n⟩

theorem illegal (op : Byte) : Statement (.illegal op) := by
  intro h
  refine ⟨[op], ?_⟩
  simp only [Instr.wellFormed, illegalOpcodes, List.contains_eq_mem, List.mem_cons, List.not_mem_nil, or_false,
    decide_eq_true_eq] at h
  rcases h with rfl | rfl | rfl | rfl | rfl | rfl | rfl | rfl | rfl | rfl | rfl <;> rfl

theorem callNcN16 (n : Word) : Statement (.callNcN16 n) := fun _ => ⟨_, decode_n16 (op := 0xD4) rfl n⟩

theorem pushDe : Statement .pushDe := fun _ => ⟨[0xD5], rfl⟩

theorem subN8 (n : Byte) : Statement (.subN8 n) := fun _ => ⟨[0xD6, n], rfl⟩

theorem rst10 : Statement .rst10 := fun _ => ⟨[0xD7], rfl⟩

theorem retC : Statement .retC := fun _ => ⟨[0xD8], rfl⟩

theorem reti : Statement .reti := fun _ => ⟨[0xD9], rfl⟩

theorem jpCN16 (n : Word) : Statement (.jpCN16 n) := fun _ => ⟨_, decode_n16 (op := 0xDA) rfl n⟩

theorem callCN16 (n : Word) : Statement (.callCN16 n) := fun _ => ⟨_, decode_n16 (op := 0xDC) rfl n⟩

theorem sbcAN8 (n : Byte) : Statement (.sbcAN8 n) := fun _ => ⟨[0xDE, n], rfl⟩

theorem rst18 : Statement .rst18 := fun _ => ⟨[0xDF], rfl⟩

theorem ldhAtN8A (n : Byte) : Statement (.ldhAtN8A n) := fun _ => ⟨[0xE0, n], rfl⟩

theorem popHl : Statement .popHl := fun _ => ⟨[0xE1], rfl⟩

theorem ldhAtCA : Statement .ldhAtCA := fun _ => ⟨[0xE2], rfl⟩

theorem pushHl : Statement .pushHl := fun _ => ⟨[0xE5], rfl⟩

theorem andN8 (n : Byte) : Statement (.andN8 n) := fun _ => ⟨[0xE6, n], rfl⟩

theorem rst20 : Statement .rst20 := fun _ => ⟨[0xE7], rfl⟩

theorem addSpE8 (e : Byte) : Statement (.addSpE8 e) := fun _ => ⟨[0xE8, e], rfl⟩

theorem jpHl : Statement .jpHl := fun _ => ⟨[0xE9], rfl⟩

theorem ldAtN16A (n : Word) : Statement (.ldAtN16A n) := fun _ => ⟨_, decode_n16 (op := 0xEA) rfl n⟩

theorem xorN8 (n : Byte) : Statement (.xorN8 n) := fun _ => ⟨[0xEE, n], rfl⟩

theorem rst28 : Statement .rst28 := fun _ => ⟨[0xEF], rfl⟩

theorem ldhAAtN8 (n : Byte) : Statement (.ldhAAtN8 n) := fun _ => ⟨[0xF0, n], rfl⟩

theorem popAf : Statement .popAf := fun _ => ⟨[0xF1], rfl⟩

theorem ldhAAtC : Statement .ldhAAtC := fun _ => ⟨[0xF2], rfl⟩

theorem di : Statement .di := fun _ => ⟨[0xF3], rfl⟩

theorem pushAf : Statement .pushAf := fun _ => ⟨[0xF5], rfl⟩

theorem orN8 (n : Byte) : Statement (.orN8 n) := fun _ => ⟨[0xF6, n], rfl⟩

theorem rst30 : Statement .rst30 := fun _ => ⟨[0xF7], rfl⟩

theorem ldHlSpE8 (e : Byte) : Statement (.ldHlSpE8 e) := fun _ => ⟨[0xF8, e], rfl⟩

theorem ldSpHl : Statement .ldSpHl := fun _ => ⟨[0xF9], rfl⟩

theorem ldAAtN16 (n : Word) : Statement (.ldAAtN16 n) := fun _ => ⟨_, decode_n16 (op := 0xFA) rfl n⟩

theorem ei : Statement .ei := fun _ => ⟨[0xFB], rfl⟩

theorem cpN8 (n : Byte) : Statement (.cpN8 n) := fun _ => ⟨[0xFE, n], rfl⟩

theorem rst38 : Statement .rst38 := fun _ => ⟨[0xFF], rfl⟩

theorem rlcB : Statement .rlcB := fun _ => ⟨[0xCB, 0x00], rfl⟩

theorem rlcC : Statement .rlcC := fun _ => ⟨[0xCB, 0x01], rfl⟩

theorem rlcD : Statement .rlcD := fun _ => ⟨[0xCB, 0x02], rfl⟩

theorem rlcE : Statement .rlcE := fun _ => ⟨[0xCB, 0x03], rfl⟩

theorem rlcH : Statement .rlcH := fun _ => ⟨[0xCB, 0x04], rfl⟩

theorem rlcL : Statement .rlcL := fun _ => ⟨[0xCB, 0x05], rfl⟩

theorem rlcAtHl : Statement .rlcAtHl := fun _ => ⟨[0xCB, 0x06], rfl⟩

theorem rlcA : Statement .rlcA := fun _ => ⟨[0xCB, 0x07], rfl⟩

theorem rrcB : Statement .rrcB := fun _ => ⟨[0xCB, 0x08], rfl⟩

theorem rrcC : Statement .rrcC := fun _ => ⟨[0xCB, 0x09], rfl⟩

theorem rrcD : Statement .rrcD := fun _ => ⟨[0xCB, 0x0A], rfl⟩

theorem rrcE : Statement .rrcE := fun _ => ⟨[0xCB, 0x0B], rfl⟩

theorem rrcH : Statement .rrcH := fun _ => ⟨[0xCB, 0x0C], rfl⟩

theorem rrcL : Statement .rrcL := fun _ => ⟨[0xCB, 0x0D], rfl⟩

theorem rrcAtHl : Statement .rrcAtHl := fun _ => ⟨[0xCB, 0x0E], rfl⟩

theorem rrcA : Statement .rrcA := fun _ => ⟨[0xCB, 0x0F], rfl⟩

theorem rlB : Statement .rlB := fun _ => ⟨[0xCB, 0x10], rfl⟩

theorem rlC : Statement .rlC := fun _ => ⟨[0xCB, 0x11], rfl⟩

theorem rlD : Statement .rlD := fun _ => ⟨[0xCB, 0x12], rfl⟩

theorem rlE : Statement .rlE := fun _ => ⟨[0xCB, 0x13], rfl⟩

theorem rlH : Statement .rlH := fun _ => ⟨[0xCB, 0x14], rfl⟩

theorem rlL : Statement .rlL := fun _ => ⟨[0xCB, 0x15], rfl⟩

theorem rlAtHl : Statement .rlAtHl := fun _ => ⟨[0xCB, 0x16], rfl⟩

theorem rlA : Statement .rlA := fun _ => ⟨[0xCB, 0x17], rfl⟩

theorem rrB : Statement .rrB := fun _ => ⟨[0xCB, 0x18], rfl⟩

theorem rrC : Statement .rrC := fun _ => ⟨[0xCB, 0x19], rfl⟩

theorem rrD : Statement .rrD := fun _ => ⟨[0xCB, 0x1A], rfl⟩

theorem rrE : Statement .rrE := fun _ => ⟨[0xCB, 0x1B], rfl⟩

theorem rrH : Statement .rrH := fun _ => ⟨[0xCB, 0x1C], rfl⟩

theorem rrL : Statement .rrL := fun _ => ⟨[0xCB, 0x1D], rfl⟩

theorem rrAtHl : Statement .rrAtHl := fun _ => ⟨[0xCB, 0x1E], rfl⟩

theorem rrA : Statement .rrA := fun _ => ⟨[0xCB, 0x1F], rfl⟩

theorem slaB : Statement .slaB := fun _ => ⟨[0xCB, 0x20], rfl⟩

theorem slaC : Statement .slaC := fun _ => ⟨[0xCB, 0x21], rfl⟩

theorem slaD : Statement .slaD := fun _ => ⟨[0xCB, 0x22], rfl⟩

theorem slaE : Statement .slaE := fun _ => ⟨[0xCB, 0x23], rfl⟩

theorem slaH : Statement .slaH := fun _ => ⟨[0xCB, 0x24], rfl⟩

theorem slaL : Statement .slaL := fun _ => ⟨[0xCB, 0x25], rfl⟩

theorem slaAtHl : Statement .slaAtHl := fun _ => ⟨[0xCB, 0x26], rfl⟩

theorem slaA : Statement .slaA := fun _ => ⟨[0xCB, 0x27], rfl⟩

theorem sraB : Statement .sraB := fun _ => ⟨[0xCB, 0x28], rfl⟩

theorem sraC : Statement .sraC := fun _ => ⟨[0xCB, 0x29], rfl⟩

theorem sraD : Statement .sraD := fun _ => ⟨[0xCB, 0x2A], rfl⟩

theorem sraE : Statement .sraE := fun _ => ⟨[0xCB, 0x2B], rfl⟩

theorem sraH : Statement .sraH := fun _ => ⟨[0xCB, 0x2C], rfl⟩

theorem sraL : Statement .sraL := fun _ => ⟨[0xCB, 0x2D], rfl⟩

theorem sraAtHl : Statement .sraAtHl := fun _ => ⟨[0xCB, 0x2E], rfl⟩

theorem sraA : Statement .sraA := fun _ => ⟨[0xCB, 0x2F], rfl⟩

theorem swapB : Statement .swapB := fun _ => ⟨[0xCB, 0x30], rfl⟩

theorem swapC : Statement .swapC := fun _ => ⟨[0xCB, 0x31], rfl⟩

theorem swapD : Statement .swapD := fun _ => ⟨[0xCB, 0x32], rfl⟩

theorem swapE : Statement .swapE := fun _ => ⟨[0xCB, 0x33], rfl⟩

theorem swapH : Statement .swapH := fun _ => ⟨[0xCB, 0x34], rfl⟩

theorem swapL : Statement .swapL := fun _ => ⟨[0xCB, 0x35], rfl⟩

theorem swapAtHl : Statement .swapAtHl := fun _ => ⟨[0xCB, 0x36], rfl⟩

theorem swapA : Statement .swapA := fun _ => ⟨[0xCB, 0x37], rfl⟩

theorem srlB : Statement .srlB := fun _ => ⟨[0xCB, 0x38], rfl⟩

theorem srlC : Statement .srlC := fun _ => ⟨[0xCB, 0x39], rfl⟩

theorem srlD : Statement .srlD := fun _ => ⟨[0xCB, 0x3A], rfl⟩

theorem srlE : Statement .srlE := fun _ => ⟨[0xCB, 0x3B], rfl⟩

theorem srlH : Statement .srlH := fun _ => ⟨[0xCB, 0x3C], rfl⟩

theorem srlL : Statement .srlL := fun _ => ⟨[0xCB, 0x3D], rfl⟩

theorem srlAtHl : Statement .srlAtHl := fun _ => ⟨[0xCB, 0x3E], rfl⟩

theorem srlA : Statement .srlA := fun _ => ⟨[0xCB, 0x3F], rfl⟩

theorem bit0B : Statement .bit0B := fun _ => ⟨[0xCB, 0x40], rfl⟩

theorem bit0C : Statement .bit0C := fun _ => ⟨[0xCB, 0x41], rfl⟩

theorem bit0D : Statement .bit0D := fun _ => ⟨[0xCB, 0x42], rfl⟩

theorem bit0E : Statement .bit0E := fun _ => ⟨[0xCB, 0x43], rfl⟩

theorem bit0H : Statement .bit0H := fun _ => ⟨[0xCB, 0x44], rfl⟩

theorem bit0L : Statement .bit0L := fun _ => ⟨[0xCB, 0x45], rfl⟩

theorem bit0AtHl : Statement .bit0AtHl := fun _ => ⟨[0xCB, 0x46], rfl⟩

theorem bit0A : Statement .bit0A := fun _ => ⟨[0xCB, 0x47], rfl⟩

theorem bit1B : Statement .bit1B := fun _ => ⟨[0xCB, 0x48], rfl⟩

theorem bit1C : Statement .bit1C := fun _ => ⟨[0xCB, 0x49], rfl⟩

theorem bit1D : Statement .bit1D := fun _ => ⟨[0xCB, 0x4A], rfl⟩

theorem bit1E : Statement .bit1E := fun _ => ⟨[0xCB, 0x4B], rfl⟩

theorem bit1H : Statement .bit1H := fun _ => ⟨[0xCB, 0x4C], rfl⟩

theorem bit1L : Statement .bit1L := fun _ => ⟨[0xCB, 0x4D], rfl⟩

theorem bit1AtHl : Statement .bit1AtHl := fun _ => ⟨[0xCB, 0x4E], rfl⟩

theorem bit1A : Statement .bit1A := fun _ => ⟨[0xCB, 0x4F], rfl⟩

theorem bit2B : Statement .bit2B := fun _ => ⟨[0xCB, 0x50], rfl⟩

theorem bit2C : Statement .bit2C := fun _ => ⟨[0xCB, 0x51], rfl⟩

theorem bit2D : Statement .bit2D := fun _ => ⟨[0xCB, 0x52], rfl⟩

theorem bit2E : Statement .bit2E := fun _ => ⟨[0xCB, 0x53], rfl⟩

theorem bit2H : Statement .bit2H := fun _ => ⟨[0xCB, 0x54], rfl⟩

theorem bit2L : Statement .bit2L := fun _ => ⟨[0xCB, 0x55], rfl⟩

theorem bit2AtHl : Statement .bit2AtHl := fun _ => ⟨[0xCB, 0x56], rfl⟩

theorem bit2A : Statement .bit2A := fun _ => ⟨[0xCB, 0x57], rfl⟩

theorem bit3B : Statement .bit3B := fun _ => ⟨[0xCB, 0x58], rfl⟩

theorem bit3C : Statement .bit3C := fun _ => ⟨[0xCB, 0x59], rfl⟩

theorem bit3D : Statement .bit3D := fun _ => ⟨[0xCB, 0x5A], rfl⟩

theorem bit3E : Statement .bit3E := fun _ => ⟨[0xCB, 0x5B], rfl⟩

theorem bit3H : Statement .bit3H := fun _ => ⟨[0xCB, 0x5C], rfl⟩

theorem bit3L : Statement .bit3L := fun _ => ⟨[0xCB, 0x5D], rfl⟩

theorem bit3AtHl : Statement .bit3AtHl := fun _ => ⟨[0xCB, 0x5E], rfl⟩

theorem bit3A : Statement .bit3A := fun _ => ⟨[0xCB, 0x5F], rfl⟩

theorem bit4B : Statement .bit4B := fun _ => ⟨[0xCB, 0x60], rfl⟩

theorem bit4C : Statement .bit4C := fun _ => ⟨[0xCB, 0x61], rfl⟩

theorem bit4D : Statement .bit4D := fun _ => ⟨[0xCB, 0x62], rfl⟩

theorem bit4E : Statement .bit4E := fun _ => ⟨[0xCB, 0x63], rfl⟩

theorem bit4H : Statement .bit4H := fun _ => ⟨[0xCB, 0x64], rfl⟩

theorem bit4L : Statement .bit4L := fun _ => ⟨[0xCB, 0x65], rfl⟩

theorem bit4AtHl : Statement .bit4AtHl := fun _ => ⟨[0xCB, 0x66], rfl⟩

theorem bit4A : Statement .bit4A := fun _ => ⟨[0xCB, 0x67], rfl⟩

theorem bit5B : Statement .bit5B := fun _ => ⟨[0xCB, 0x68], rfl⟩

theorem bit5C : Statement .bit5C := fun _ => ⟨[0xCB, 0x69], rfl⟩

theorem bit5D : Statement .bit5D := fun _ => ⟨[0xCB, 0x6A], rfl⟩

theorem bit5E : Statement .bit5E := fun _ => ⟨[0xCB, 0x6B], rfl⟩

theorem bit5H : Statement .bit5H := fun _ => ⟨[0xCB, 0x6C], rfl⟩

theorem bit5L : Statement .bit5L := fun _ => ⟨[0xCB, 0x6D], rfl⟩

theorem bit5AtHl : Statement .bit5AtHl := fun _ => ⟨[0xCB, 0x6E], rfl⟩

theorem bit5A : Statement .bit5A := fun _ => ⟨[0xCB, 0x6F], rfl⟩

theorem bit6B : Statement .bit6B := fun _ => ⟨[0xCB, 0x70], rfl⟩

theorem bit6C : Statement .bit6C := fun _ => ⟨[0xCB, 0x71], rfl⟩

theorem bit6D : Statement .bit6D := fun _ => ⟨[0xCB, 0x72], rfl⟩

theorem bit6E : Statement .bit6E := fun _ => ⟨[0xCB, 0x73], rfl⟩

theorem bit6H : Statement .bit6H := fun _ => ⟨[0xCB, 0x74], rfl⟩

theorem bit6L : Statement .bit6L := fun _ => ⟨[0xCB, 0x75], rfl⟩

theorem bit6AtHl : Statement .bit6AtHl := fun _ => ⟨[0xCB, 0x76], rfl⟩

theorem bit6A : Statement .bit6A := fun _ => ⟨[0xCB, 0x77], rfl⟩

theorem bit7B : Statement .bit7B := fun _ => ⟨[0xCB, 0x78], rfl⟩

theorem bit7C : Statement .bit7C := fun _ => ⟨[0xCB, 0x79], rfl⟩

theorem bit7D : Statement .bit7D := fun _ => ⟨[0xCB, 0x7A], rfl⟩

theorem bit7E : Statement .bit7E := fun _ => ⟨[0xCB, 0x7B], rfl⟩

theorem bit7H : Statement .bit7H := fun _ => ⟨[0xCB, 0x7C], rfl⟩

theorem bit7L : Statement .bit7L := fun _ => ⟨[0xCB, 0x7D], rfl⟩

theorem bit7AtHl : Statement .bit7AtHl := fun _ => ⟨[0xCB, 0x7E], rfl⟩

theorem bit7A : Statement .bit7A := fun _ => ⟨[0xCB, 0x7F], rfl⟩

theorem res0B : Statement .res0B := fun _ => ⟨[0xCB, 0x80], rfl⟩

theorem res0C : Statement .res0C := fun _ => ⟨[0xCB, 0x81], rfl⟩

theorem res0D : Statement .res0D := fun _ => ⟨[0xCB, 0x82], rfl⟩

theorem res0E : Statement .res0E := fun _ => ⟨[0xCB, 0x83], rfl⟩

theorem res0H : Statement .res0H := fun _ => ⟨[0xCB, 0x84], rfl⟩

theorem res0L : Statement .res0L := fun _ => ⟨[0xCB, 0x85], rfl⟩

theorem res0AtHl : Statement .res0AtHl := fun _ => ⟨[0xCB, 0x86], rfl⟩

theorem res0A : Statement .res0A := fun _ => ⟨[0xCB, 0x87], rfl⟩

theorem res1B : Statement .res1B := fun _ => ⟨[0xCB, 0x88], rfl⟩

theorem res1C : Statement .res1C := fun _ => ⟨[0xCB, 0x89], rfl⟩

theorem res1D : Statement .res1D := fun _ => ⟨[0xCB, 0x8A], rfl⟩

theorem res1E : Statement .res1E := fun _ => ⟨[0xCB, 0x8B], rfl⟩

theorem res1H : Statement .res1H := fun _ => ⟨[0xCB, 0x8C], rfl⟩

theorem res1L : Statement .res1L := fun _ => ⟨[0xCB, 0x8D], rfl⟩

theorem res1AtHl : Statement .res1AtHl := fun _ => ⟨[0xCB, 0x8E], rfl⟩

theorem res1A : Statement .res1A := fun _ => ⟨[0xCB, 0x8F], rfl⟩

theorem res2B : Statement .res2B := fun _ => ⟨[0xCB, 0x90], rfl⟩

theorem res2C : Statement .res2C := fun _ => ⟨[0xCB, 0x91], rfl⟩

theorem res2D : Statement .res2D := fun _ => ⟨[0xCB, 0x92], rfl⟩

theorem res2E : Statement .res2E := fun _ => ⟨[0xCB, 0x93], rfl⟩

theorem res2H : Statement .res2H := fun _ => ⟨[0xCB, 0x94], rfl⟩

theorem res2L : Statement .res2L := fun _ => ⟨[0xCB, 0x95], rfl⟩

theorem res2AtHl : Statement .res2AtHl := fun _ => ⟨[0xCB, 0x96], rfl⟩

theorem res2A : Statement .res2A := fun _ => ⟨[0xCB, 0x97], rfl⟩

theorem res3B : Statement .res3B := fun _ => ⟨[0xCB, 0x98], rfl⟩

theorem res3C : Statement .res3C := fun _ => ⟨[0xCB, 0x99], rfl⟩

theorem res3D : Statement .res3D := fun _ => ⟨[0xCB, 0x9A], rfl⟩

theorem res3E : Statement .res3E := fun _ => ⟨[0xCB, 0x9B], rfl⟩

theorem res3H : Statement .res3H := fun _ => ⟨[0xCB, 0x9C], rfl⟩

theorem res3L : Statement .res3L := fun _ => ⟨[0xCB, 0x9D], rfl⟩

theorem res3AtHl : Statement .res3AtHl := fun _ => ⟨[0xCB, 0x9E], rfl⟩

theorem res3A : Statement .res3A := fun _ => ⟨[0xCB, 0x9F], rfl⟩

theorem res4B : Statement .res4B := fun _ => ⟨[0xCB, 0xA0], rfl⟩

theorem res4C : Statement .res4C := fun _ => ⟨[0xCB, 0xA1], rfl⟩

theorem res4D : Statement .res4D := fun _ => ⟨[0xCB, 0xA2], rfl⟩

theorem res4E : Statement .res4E := fun _ => ⟨[0xCB, 0xA3], rfl⟩

theorem res4H : Statement .res4H := fun _ => ⟨[0xCB, 0xA4], rfl⟩

theorem res4L : Statement .res4L := fun _ => ⟨[0xCB, 0xA5], rfl⟩

theorem res4AtHl : Statement .res4AtHl := fun _ => ⟨[0xCB, 0xA6], rfl⟩

theorem res4A : Statement .res4A := fun _ => ⟨[0xCB, 0xA7], rfl⟩

theorem res5B : Statement .res5B := fun _ => ⟨[0xCB, 0xA8], rfl⟩

theorem res5C : Statement .res5C := fun _ => ⟨[0xCB, 0xA9], rfl⟩

theorem res5D : Statement .res5D := fun _ => ⟨[0xCB, 0xAA], rfl⟩

theorem res5E : Statement .res5E := fun _ => ⟨[0xCB, 0xAB], rfl⟩

theorem res5H : Statement .res5H := fun _ => ⟨[0xCB, 0xAC], rfl⟩

theorem res5L : Statement .res5L := fun _ => ⟨[0xCB, 0xAD], rfl⟩

theorem res5AtHl : Statement .res5AtHl := fun _ => ⟨[0xCB, 0xAE], rfl⟩

theorem res5A : Statement .res5A := fun _ => ⟨[0xCB, 0xAF], rfl⟩

theorem res6B : Statement .res6B := fun _ => ⟨[0xCB, 0xB0], rfl⟩

theorem res6C : Statement .res6C := fun _ => ⟨[0xCB, 0xB1], rfl⟩

theorem res6D : Statement .res6D := fun _ => ⟨[0xCB, 0xB2], rfl⟩

theorem res6E : Statement .res6E := fun _ => ⟨[0xCB, 0xB3], rfl⟩

theorem res6H : Statement .res6H := fun _ => ⟨[0xCB, 0xB4], rfl⟩

theorem res6L : Statement .res6L := fun _ => ⟨[0xCB, 0xB5], rfl⟩

theorem res6AtHl : Statement .res6AtHl := fun _ => ⟨[0xCB, 0xB6], rfl⟩

theorem res6A : Statement .res6A := fun _ => ⟨[0xCB, 0xB7], rfl⟩

theorem res7B : Statement .res7B := fun _ => ⟨[0xCB, 0xB8], rfl⟩

theorem res7C : Statement .res7C := fun _ => ⟨[0xCB, 0xB9], rfl⟩

theorem res7D : Statement .res7D := fun _ => ⟨[0xCB, 0xBA], rfl⟩

theorem res7E : Statement .res7E := fun _ => ⟨[0xCB, 0xBB], rfl⟩

theorem res7H : Statement .res7H := fun _ => ⟨[0xCB, 0xBC], rfl⟩

theorem res7L : Statement .res7L := fun _ => ⟨[0xCB, 0xBD], rfl⟩

theorem res7AtHl : Statement .res7AtHl := fun _ => ⟨[0xCB, 0xBE], rfl⟩

theorem res7A : Statement .res7A := fun _ => ⟨[0xCB, 0xBF], rfl⟩

theorem set0B : Statement .set0B := fun _ => ⟨[0xCB, 0xC0], rfl⟩

theorem set0C : Statement .set0C := fun _ => ⟨[0xCB, 0xC1], rfl⟩

theorem set0D : Statement .set0D := fun _ => ⟨[0xCB, 0xC2], rfl⟩

theorem set0E : Statement .set0E := fun _ => ⟨[0xCB, 0xC3], rfl⟩

theorem set0H : Statement .set0H := fun _ => ⟨[0xCB, 0xC4], rfl⟩

theorem set0L : Statement .set0L := fun _ => ⟨[0xCB, 0xC5], rfl⟩

theorem set0AtHl : Statement .set0AtHl := fun _ => ⟨[0xCB, 0xC6], rfl⟩

theorem set0A : Statement .set0A := fun _ => ⟨[0xCB, 0xC7], rfl⟩

theorem set1B : Statement .set1B := fun _ => ⟨[0xCB, 0xC8], rfl⟩

theorem set1C : Statement .set1C := fun _ => ⟨[0xCB, 0xC9], rfl⟩

theorem set1D : Statement .set1D := fun _ => ⟨[0xCB, 0xCA], rfl⟩

theorem set1E : Statement .set1E := fun _ => ⟨[0xCB, 0xCB], rfl⟩

theorem set1H : Statement .set1H := fun _ => ⟨[0xCB, 0xCC], rfl⟩

theorem set1L : Statement .set1L := fun _ => ⟨[0xCB, 0xCD], rfl⟩

theorem set1AtHl : Statement .set1AtHl := fun _ => ⟨[0xCB, 0xCE], rfl⟩

theorem set1A : Statement .set1A := fun _ => ⟨[0xCB, 0xCF], rfl⟩

theorem set2B : Statement .set2B := fun _ => ⟨[0xCB, 0xD0], rfl⟩

theorem set2C : Statement .set2C := fun _ => ⟨[0xCB, 0xD1], rfl⟩

theorem set2D : Statement .set2D := fun _ => ⟨[0xCB, 0xD2], rfl⟩

theorem set2E : Statement .set2E := fun _ => ⟨[0xCB, 0xD3], rfl⟩

theorem set2H : Statement .set2H := fun _ => ⟨[0xCB, 0xD4], rfl⟩

theorem set2L : Statement .set2L := fun _ => ⟨[0xCB, 0xD5], rfl⟩

theorem set2AtHl : Statement .set2AtHl := fun _ => ⟨[0xCB, 0xD6], rfl⟩

theorem set2A : Statement .set2A := fun _ => ⟨[0xCB, 0xD7], rfl⟩

theorem set3B : Statement .set3B := fun _ => ⟨[0xCB, 0xD8], rfl⟩

theorem set3C : Statement .set3C := fun _ => ⟨[0xCB, 0xD9], rfl⟩

theorem set3D : Statement .set3D := fun _ => ⟨[0xCB, 0xDA], rfl⟩

theorem set3E : Statement .set3E := fun _ => ⟨[0xCB, 0xDB], rfl⟩

theorem set3H : Statement .set3H := fun _ => ⟨[0xCB, 0xDC], rfl⟩

theorem set3L : Statement .set3L := fun _ => ⟨[0xCB, 0xDD], rfl⟩

theorem set3AtHl : Statement .set3AtHl := fun _ => ⟨[0xCB, 0xDE], rfl⟩

theorem set3A : Statement .set3A := fun _ => ⟨[0xCB, 0xDF], rfl⟩

theorem set4B : Statement .set4B := fun _ => ⟨[0xCB, 0xE0], rfl⟩

theorem set4C : Statement .set4C := fun _ => ⟨[0xCB, 0xE1], rfl⟩

theorem set4D : Statement .set4D := fun _ => ⟨[0xCB, 0xE2], rfl⟩

theorem set4E : Statement .set4E := fun _ => ⟨[0xCB, 0xE3], rfl⟩

theorem set4H : Statement .set4H := fun _ => ⟨[0xCB, 0xE4], rfl⟩

theorem set4L : Statement .set4L := fun _ => ⟨[0xCB, 0xE5], rfl⟩

theorem set4AtHl : Statement .set4AtHl := fun _ => ⟨[0xCB, 0xE6], rfl⟩

theorem set4A : Statement .set4A := fun _ => ⟨[0xCB, 0xE7], rfl⟩

theorem set5B : Statement .set5B := fun _ => ⟨[0xCB, 0xE8], rfl⟩

theorem set5C : Statement .set5C := fun _ => ⟨[0xCB, 0xE9], rfl⟩

theorem set5D : Statement .set5D := fun _ => ⟨[0xCB, 0xEA], rfl⟩

theorem set5E : Statement .set5E := fun _ => ⟨[0xCB, 0xEB], rfl⟩

theorem set5H : Statement .set5H := fun _ => ⟨[0xCB, 0xEC], rfl⟩

theorem set5L : Statement .set5L := fun _ => ⟨[0xCB, 0xED], rfl⟩

theorem set5AtHl : Statement .set5AtHl := fun _ => ⟨[0xCB, 0xEE], rfl⟩

theorem set5A : Statement .set5A := fun _ => ⟨[0xCB, 0xEF], rfl⟩

theorem set6B : Statement .set6B := fun _ => ⟨[0xCB, 0xF0], rfl⟩

theorem set6C : Statement .set6C := fun _ => ⟨[0xCB, 0xF1], rfl⟩

theorem set6D : Statement .set6D := fun _ => ⟨[0xCB, 0xF2], rfl⟩

theorem set6E : Statement .set6E := fun _ => ⟨[0xCB, 0xF3], rfl⟩

theorem set6H : Statement .set6H := fun _ => ⟨[0xCB, 0xF4], rfl⟩

theorem set6L : Statement .set6L := fun _ => ⟨[0xCB, 0xF5], rfl⟩

theorem set6AtHl : Statement .set6AtHl := fun _ => ⟨[0xCB, 0xF6], rfl⟩

theorem set6A : Statement .set6A := fun _ => ⟨[0xCB, 0xF7], rfl⟩

theorem set7B : Statement .set7B := fun _ => ⟨[0xCB, 0xF8], rfl⟩

theorem set7C : Statement .set7C := fun _ => ⟨[0xCB, 0xF9], rfl⟩

theorem set7D : Statement .set7D := fun _ => ⟨[0xCB, 0xFA], rfl⟩

theorem set7E : Statement .set7E := fun _ => ⟨[0xCB, 0xFB], rfl⟩

theorem set7H : Statement .set7H := fun _ => ⟨[0xCB, 0xFC], rfl⟩

theorem set7L : Statement .set7L := fun _ => ⟨[0xCB, 0xFD], rfl⟩

theorem set7AtHl : Statement .set7AtHl := fun _ => ⟨[0xCB, 0xFE], rfl⟩

theorem set7A : Statement .set7A := fun _ => ⟨[0xCB, 0xFF], rfl⟩

end Sys2Proof.Laws.Reached
end

