-- ==== Sys2Proof/Laws/Time.lean ====
section
/-! SUPPORT. What a dot, several dots and one cycle are, as whole states (spec/47_cycle_distributor.md R290): each said
once, so that no proof unfolds `advance`. -/

namespace Sys2Proof.Machine

/-! ### Requests -/

theorem requestMask_append (ks ls : List Source) : ∀ v : Byte,
    requestMask v (ks ++ ls) = requestMask (requestMask v ks) ls := by
  induction ks with
  | nil => exact fun _ => rfl
  | cons k ks ih => exact fun v => ih _

/-- A list of requests sets the bit of each (R364). -/
theorem requestMask_foldl (ks : List Source) : ∀ v : Byte,
    requestMask v ks = ks.foldl (fun v k => v ||| 1#8 <<< sourceIndex k) v := by
  induction ks with
  | nil => exact fun _ => rfl
  | cons k ks ih => exact fun v => ih _

/-! ### Dots -/

/-- The picture pipeline's tick as one state (R300, R313). -/
theorem tickPpu_eq (s : State) : tickPpu s =
    { s with
      ppu := ppuTick s.params s.mem s.ppu
      intf := requestMask s.intf (ppuRequests s.params s.mem s.ppu) } := rfl

/-- The timer's tick as one state (R380). -/
theorem tickTimer_eq (s : State) : tickTimer s =
    { s with timer := timerTick s.timer, intf := requestMask s.intf (timerRequests s.timer) } := rfl

/-- The requests of a state's dot number `i`: the timer's, then the picture pipeline's (R290). -/
def dotRequests (s : State) (i : Nat) : List Source :=
  timerRequests (timerTick^[i] s.timer) ++ ppuRequests s.params s.mem ((ppuTick s.params s.mem)^[i] s.ppu)

/-- One dot as one state (R290). -/
theorem advanceDot_eq (s : State) : advanceDot s =
    { s with
      ticks := s.ticks + 1
      timer := timerTick s.timer
      ppu := ppuTick s.params s.mem s.ppu
      audio := audioTick s.audio
      intf := requestMask s.intf (dotRequests s 0) } := by
  have e : requestMask s.intf (dotRequests s 0) =
      requestMask (requestMask s.intf (timerRequests s.timer)) (ppuRequests s.params s.mem s.ppu) :=
    requestMask_append _ _ _
  rw [e]
  rfl

/-- Several dots as one state, no cycle's end among them (R290). -/
theorem advanceDots_eq (n : Nat) (s : State) : advanceDot^[n] s =
    { s with
      ticks := s.ticks + n
      timer := timerTick^[n] s.timer
      ppu := (ppuTick s.params s.mem)^[n] s.ppu
      audio := audioTick^[n] s.audio
      intf := requestMask s.intf ((List.range n).flatMap (dotRequests s)) } := by
  induction n with
  | zero => rfl
  | succ n ih =>
    simp only [Function.iterate_succ_apply', ih, advanceDot_eq, List.range_succ, List.flatMap_append, requestMask_append,
      List.flatMap_cons, List.flatMap_nil, List.append_nil]
    rfl

/-! ### Cycles -/

/-- The DMA unit's tick changes OAM, the unit and what its read leaves of a collaborator (R385, R292). -/
theorem dmaTick_frame (s : State) : ∃ mem dma cart joypad audio, dmaTick s =
    { s with mem := mem, dma := dma, cart := cart, joypad := joypad, audio := audio } := by
  unfold dmaTick
  split
  · split
    · exact ⟨_, _, _, _, _, rfl⟩
    · obtain ⟨c, j, u, e⟩ := afterRead_frame s (dmaSource s.dma)
      unfold dmaCopy oamStore
      rw [e]
      split <;> exact ⟨_, _, _, _, _, rfl⟩
  · exact ⟨_, _, _, _, _, rfl⟩

/-- An inactive DMA unit does nothing (R385). -/
theorem dmaTick_idle {s : State} (h : s.dma.active = false) : dmaTick s = s := by
  unfold dmaTick
  rw [if_neg (by rw [h]; exact Bool.false_ne_true)]

/-- One cycle: four dots, then the DMA unit (R290). -/
theorem advance_one (s : State) : advance 1 s = dmaTick (advanceDot^[4] s) := rfl

/-- The last cycle of several (R290). -/
theorem advance_succ' (n : Nat) : ∀ s, advance (n + 1) s = advanceCycle (advance n s) := by
  induction n with
  | zero => exact fun _ => rfl
  | succ n ih => exact fun s => ih (advanceCycle s)

end Sys2Proof.Machine
end

