-- ==== Sys2Proof/Tests/Slice0.lean ====
section
/-! SUPPORT. Tests of the model on the spec's own vectors, one step each,
      and for every statement that has hypotheses a
state that meets them. -/

open Sys2Proof Sys2Proof.Machine

namespace Sys2Proof.Tests

set_option Elab.async false

/-- The reset state with bytes at 0x0100, where it starts. -/
def code (bytes : List Byte) : State := placeBytes State.reset 0x0100 bytes

/-- The state after one step. -/
def after (s : State) : State :=
  match step s with
  | .next t => t
  | .fault _ => s
  | .refused _ => s

/-! ### WellFormed -/

/-- R111: 0x00 is NOP, no ILLEGAL instruction. -/
theorem test_illformed_illegal_nop : (Instr.illegal 0x00).wellFormed = false := by decide

/-- R111: 0xCB is the prefix, no ILLEGAL instruction. -/
theorem test_illformed_illegal_prefix : (Instr.illegal 0xCB).wellFormed = false := by decide

/-- R111: the 11 bytes. -/
theorem test_wellformed_illegal :
    [0xD3, 0xDB, 0xDD, 0xE3, 0xE4, 0xEB, 0xEC, 0xED, 0xF4, 0xFC,
      0xFD].all (fun op => (Instr.illegal op).wellFormed) = true := by
  decide

/-! ### Decoding: words written out from the encodings -/

/-- R130 `01 yyy zzz`: y = 011 (E), z = 010 (D); spec/95_test_vectors.md 3.8. -/
theorem test_decode_ld_r_r : decode [0b01011010] = .ok (.ldED, []) := rfl

/-- R131 `00 yyy 110`: y = 000 (B); spec/95_test_vectors.md 3.8. -/
theorem test_decode_ld_r_n8 : decode [0b00000110, 0x12] = .ok (.ldBN8 0x12, []) := rfl

/-- R132 `01 yyy 110`; spec/95_test_vectors.md 3.8. -/
theorem test_decode_ld_r_hl : decode [0b01000110] = .ok (.ldBAtHl, []) := rfl

/-- R133 `01 110 zzz`; spec/95_test_vectors.md 3.8. -/
theorem test_decode_ld_hl_r : decode [0b01110000] = .ok (.ldAtHlB, []) := rfl

/-- R141: 0xE0, then the offset. -/
theorem test_decode_ldh : decode [0xE0, 0x46] = .ok (.ldhAtN8A 0x46, []) := rfl

/-- R139, R140, R102: the low byte first. -/
theorem test_decode_ld_n16_a : decode [0xEA, 0x34, 0xC2] = .ok (.ldAtN16A 0xC234, []) := rfl

/-- R150 `00 pp0 001`: p = 10 (HL); spec/95_test_vectors.md 3.8. -/
theorem test_decode_ld_rr_n16 : decode [0b00100001, 0x34, 0x12] = .ok (.ldHlN16 0x1234, []) := rfl

/-- R153 `11 pp0 101`: p = 11 (AF). -/
theorem test_decode_push : decode [0b11110101] = .ok (.pushAf, []) := rfl

/-- R154 `11 pp0 001`: p = 01 (DE). -/
theorem test_decode_pop : decode [0b11010001] = .ok (.popDe, []) := rfl

/-- R155. -/
theorem test_decode_ld_hl_sp : decode [0xF8, 0x02] = .ok (.ldHlSpE8 0x02, []) := rfl

/-- 0xAE is `10 101 110`; spec/95_test_vectors.md 3.8. -/
theorem test_decode_alu_hl : decode [0b10101110] = .ok (.xorAtHl, []) := rfl

/-- R171 `10 011 zzz`: z = 100 (H). -/
theorem test_decode_alu_r : decode [0b10011100] = .ok (.sbcAH, []) := rfl

/-- R185 `11 yyy 110`: y = 111. -/
theorem test_decode_alu_n8 : decode [0b11111110, 0x90] = .ok (.cpN8 0x90, []) := rfl

/-- R186 `00 yyy 100`: y = 100 (H). -/
theorem test_decode_inc_r : decode [0b00100100] = .ok (.incH, []) := rfl

/-- R200 `00 pp1 001`: p = 11 (SP). -/
theorem test_decode_add_hl : decode [0b00111001] = .ok (.addHlSp, []) := rfl

/-- spec/95_test_vectors.md 3.8. -/
theorem test_decode_add_sp : decode [0xE8, 0xFE] = .ok (.addSpE8 0xFE, []) := rfl

/-- R210. -/
theorem test_decode_rlca : decode [0x07] = .ok (.rlca, []) := rfl

/-- R232 `01 bbb 110`: b = 0; spec/95_test_vectors.md 3.8. -/
theorem test_decode_bit : decode [0xCB, 0b01000110] = .ok (.bit0AtHl, []) := rfl

/-- R235 `11 bbb zzz`: b = 7, z = 111 (A); spec/95_test_vectors.md 3.8. -/
theorem test_decode_set : decode [0xCB, 0b11111111] = .ok (.set7A, []) := rfl

/-- R233 `10 bbb zzz`: b = 0, z = 111 (A). -/
theorem test_decode_res : decode [0xCB, 0b10000111] = .ok (.res0A, []) := rfl

/-- R227 `00 110 zzz`: z = 111 (A). -/
theorem test_decode_swap : decode [0xCB, 0b00110111] = .ok (.swapA, []) := rfl

/-- spec/95_test_vectors.md 3.8: the second byte is never a prefix. -/
theorem test_decode_prefix_nests_not : decode [0xCB, 0xCB] = .ok (.set1E, []) := rfl

/-- R116, R276: the prefix byte alone. -/
theorem test_decode_prefix_alone : decode [0xCB] = .ok (.prefixCb, []) := rfl

/-- R255 `00 1cc 000`: cc = 00 (NZ); spec/95_test_vectors.md 3.8. -/
theorem test_decode_jr_cc : decode [0b00100000, 0xFE] = .ok (.jrNzE8 0xFE, []) := rfl

/-- R252 `11 0cc 010`: cc = 01 (Z). -/
theorem test_decode_jp_cc : decode [0b11001010, 0x00, 0x01] = .ok (.jpZN16 0x0100, []) := rfl

/-- R257 `11 0cc 100`: cc = 11 (C). -/
theorem test_decode_call_cc : decode [0b11011100, 0x34, 0x12] = .ok (.callCN16 0x1234, []) := rfl

/-- R261 `11 yyy 111`: y = 111; spec/95_test_vectors.md 3.8. -/
theorem test_decode_rst : decode [0b11111111] = .ok (.rst38, []) := rfl

/-- spec/95_test_vectors.md 3.8: the slot that would be `LD (HL),(HL)`. -/
theorem test_decode_halt : decode [0b01110110] = .ok (.halt, []) := rfl

/-- R273: two bytes, the second ignored. -/
theorem test_decode_stop : decode [0x10, 0x55] = .ok (.stop, []) := rfl

/-- R111. -/
theorem test_decode_illegal : decode [0xDD] = .ok (.illegal 0xDD, []) := rfl

/-! ### Steps: spec/95_test_vectors.md -/

/-- spec/95_test_vectors.md 3.1. -/
theorem test_ld_r_n8 :
    let t := after (code [0x16, 0x99])
    t.d = 0x99 ∧ t.pc = 0x0102 ∧ t.f = 0xB0 ∧ t.ticks = 8 := by decide +kernel

/-- spec/95_test_vectors.md 3.1: the byte at 0xFFFF is IE. -/
theorem test_ld_a_hli_wraps :
    let t := after ({ code [0x2A] with h := 0xFF, l := 0xFF, ie := 0x1B })
    t.a = 0x1B ∧ hlOf t = 0x0000 ∧ t.ticks = 8 := by decide +kernel

/-- spec/95_test_vectors.md 3.1: the write goes to the cartridge, which ignores it. -/
theorem test_ld_hld_a_rom :
    let t := after ({ code [0x32] with a := 0x55, h := 0x00, l := 0x00 })
    hlOf t = 0xFFFF ∧ busRead t 0x0000 = 0x00 ∧ t.ticks = 8 := by decide +kernel

/-- spec/95_test_vectors.md 3.1. -/
theorem test_ldh_store :
    let t := after ({ code [0xE0, 0x80] with a := 0x66 })
    busRead t 0xFF80 = 0x66 ∧ t.pc = 0x0102 ∧ t.ticks = 12 := by decide +kernel

/-- spec/95_test_vectors.md 3.1. -/
theorem test_ldh_c_load :
    let t := after ({ code [0xF2] with c := 0xFF, ie := 0x15 })
    t.a = 0x15 ∧ t.ticks = 8 := by decide +kernel

/-- spec/95_test_vectors.md 3.1. -/
theorem test_ld_store_n16 :
    let t := after ({ code [0xEA, 0x34, 0xC2] with a := 0x88 })
    busRead t 0xC234 = 0x88 ∧ t.pc = 0x0103 ∧ t.ticks = 16 := by decide +kernel

/-- spec/95_test_vectors.md 3.1: ECHO_READ. -/
theorem test_ld_echo : let t := after (code [0xFA, 0x00, 0xE0])
    t.a = 0x00 ∧ t.ticks = 16 := by decide +kernel

/-- spec/95_test_vectors.md 3.1: IO_UNMAPPED_READ. -/
theorem test_ld_unmapped :
    let t := after (code [0xFA, 0x03, 0xFF])
    t.a = 0xFF ∧ t.ticks = 16 := by decide +kernel

/-- spec/95_test_vectors.md 3.1. -/
theorem test_ld_hl_n8 :
    let t := after ({ code [0x36, 0x7F] with h := 0xC0, l := 0x21 })
    busRead t 0xC021 = 0x7F ∧ t.pc = 0x0102 ∧ t.ticks = 12 := by decide +kernel

/-- spec/95_test_vectors.md 3.2. -/
theorem test_ld_n16_sp :
    let t := after ({ code [0x08, 0x00, 0xC0] with sp := 0xFFF8 })
    busRead t 0xC000 = 0xF8 ∧ busRead t 0xC001 = 0xFF ∧ t.ticks = 20 := by decide +kernel

/-- spec/95_test_vectors.md 3.2. -/
theorem test_push_af :
    let t := after ({ code [0xF5] with a := 0x12, sp := 0xD000 })
    t.sp = 0xCFFE ∧ busRead t 0xCFFF = 0x12 ∧ busRead t 0xCFFE = 0xB0 ∧ t.ticks = 16 := by decide +kernel

/-- spec/95_test_vectors.md 3.2: the high byte goes to the cartridge, the low byte to IE. -/
theorem test_push_bc_wraps :
    let t := after ({ code [0xC5] with b := 0x12, c := 0x34, sp := 0x0001 })
    t.sp = 0xFFFF ∧ t.ie = 0x34 ∧ t.ticks = 16 := by decide +kernel

/-- spec/95_test_vectors.md 3.2: the low nibble of F is forced to 0. -/
theorem test_pop_af_masks :
    let t := after (placeBytes { code [0xF1] with sp := 0xC000 } 0xC000 [0xFF, 0x9A])
    t.a = 0x9A ∧ t.f = 0xF0 ∧ t.sp = 0xC002 ∧ t.ticks = 12 := by decide +kernel

/-- spec/95_test_vectors.md 3.2. -/
theorem test_ld_hl_sp_e8 :
    let t := after ({ code [0xF8, 0x02] with sp := 0xFFFE })
    hlOf t = 0x0000 ∧ t.f = 0x30 ∧ t.sp = 0xFFFE ∧ t.ticks = 12 := by decide +kernel

/-- spec/95_test_vectors.md 3.3. -/
theorem test_add_b :
    let t := after ({ code [0x80] with a := 0x3A, b := 0xC6, f := 0x00 })
    t.a = 0x00 ∧ t.f = 0xB0 ∧ t.ticks = 4 := by decide +kernel

/-- spec/95_test_vectors.md 3.3. -/
theorem test_adc_b :
    let t := after ({ code [0x88] with a := 0x0F, b := 0x00, f := 0x10 })
    t.a = 0x10 ∧ t.f = 0x20 ∧ t.ticks = 4 := by decide +kernel

/-- spec/95_test_vectors.md 3.3. -/
theorem test_sub_b :
    let t := after ({ code [0x90] with a := 0x3A, b := 0xC6, f := 0x00 })
    t.a = 0x74 ∧ t.f = 0x50 ∧ t.ticks = 4 := by decide +kernel

/-- spec/95_test_vectors.md 3.3. -/
theorem test_sbc_b :
    let t := after ({ code [0x98] with a := 0x00, b := 0x00, f := 0x10 })
    t.a = 0xFF ∧ t.f = 0x70 ∧ t.ticks = 4 := by decide +kernel

/-- spec/95_test_vectors.md 3.3. -/
theorem test_and_b :
    let t := after ({ code [0xA0] with a := 0x5A, b := 0xA5, f := 0x00 })
    t.a = 0x00 ∧ t.f = 0xA0 ∧ t.ticks = 4 := by decide +kernel

/-- spec/95_test_vectors.md 3.3. -/
theorem test_xor_b :
    let t := after ({ code [0xA8] with a := 0x3A, b := 0xC6, f := 0x00 })
    t.a = 0xFC ∧ t.f = 0x00 ∧ t.ticks = 4 := by decide +kernel

/-- spec/95_test_vectors.md 3.3. -/
theorem test_or_b :
    let t := after ({ code [0xB0] with a := 0x5A, b := 0xA5, f := 0x00 })
    t.a = 0xFF ∧ t.f = 0x00 ∧ t.ticks = 4 := by decide +kernel

/-- spec/95_test_vectors.md 3.3. -/
theorem test_cp_b :
    let t := after ({ code [0xB8] with a := 0x10, b := 0x01, f := 0x00 })
    t.a = 0x10 ∧ t.f = 0x60 ∧ t.ticks = 4 := by decide +kernel

/-- spec/95_test_vectors.md 3.3. -/
theorem test_adc_n8 :
    let t := after ({ code [0xCE, 0x3B] with a := 0xE1, f := 0x10 })
    t.a = 0x1D ∧ t.f = 0x10 ∧ t.ticks = 8 := by decide +kernel

/-- spec/95_test_vectors.md 3.3: the source is the destination. -/
theorem test_add_a_a :
    let t := after ({ code [0x87] with a := 0x88, f := 0x00 })
    t.a = 0x10 ∧ t.f = 0x30 ∧ t.ticks = 4 := by decide +kernel

/-- spec/95_test_vectors.md 3.3: C is kept. -/
theorem test_inc_b :
    let t := after ({ code [0x04] with b := 0x0F, f := 0x10 })
    t.b = 0x10 ∧ t.f = 0x30 ∧ t.ticks = 4 := by decide +kernel

/-- spec/95_test_vectors.md 3.3. -/
theorem test_dec_b :
    let t := after ({ code [0x05] with b := 0x01, f := 0xF0 })
    t.b = 0x00 ∧ t.f = 0xD0 ∧ t.ticks = 4 := by decide +kernel

/-- spec/95_test_vectors.md 3.3. -/
theorem test_inc_at_hl :
    let t := after (placeBytes { code [0x34] with h := 0xC0, l := 0x00, f := 0x10 } 0xC000 [0xFF])
    busRead t 0xC000 = 0x00 ∧ t.f = 0xB0 ∧ t.ticks = 12 := by decide +kernel

/-- spec/95_test_vectors.md 3.3. -/
theorem test_daa_after_add :
    let t := after ({ code [0x27] with a := 0x9A, f := 0x00 })
    t.a = 0x00 ∧ t.f = 0x90 ∧ t.ticks = 4 := by decide +kernel

/-- spec/95_test_vectors.md 3.3. -/
theorem test_daa_after_sub :
    let t := after ({ code [0x27] with a := 0x4B, f := 0x60 })
    t.a = 0x45 ∧ t.f = 0x40 ∧ t.ticks = 4 := by decide +kernel

/-- spec/95_test_vectors.md 3.3. -/
theorem test_cpl :
    let t := after ({ code [0x2F] with a := 0x35, f := 0x90 })
    t.a = 0xCA ∧ t.f = 0xF0 ∧ t.ticks = 4 := by decide +kernel

/-- spec/95_test_vectors.md 3.3. -/
theorem test_scf : let t := after ({ code [0x37] with f := 0xE0 })
    t.f = 0x90 ∧ t.ticks = 4 := by decide +kernel

/-- spec/95_test_vectors.md 3.3. -/
theorem test_ccf : let t := after ({ code [0x3F] with f := 0xF0 })
    t.f = 0x80 ∧ t.ticks = 4 := by decide +kernel

/-- spec/95_test_vectors.md 3.4. -/
theorem test_add_hl_bc :
    let t := after ({ code [0x09] with h := 0x8A, l := 0x23, b := 0x06, c := 0x05, f := 0x00 })
    hlOf t = 0x9028 ∧ t.f = 0x20 ∧ t.ticks = 8 := by decide +kernel

/-- spec/95_test_vectors.md 3.4. -/
theorem test_add_hl_keeps_z :
    let t := after ({ code [0x09] with h := 0xFF, l := 0xFF, b := 0x00, c := 0x01, f := 0x80 })
    hlOf t = 0x0000 ∧ t.f = 0xB0 ∧ t.ticks = 8 := by decide +kernel

/-- spec/95_test_vectors.md 3.4. -/
theorem test_add_sp :
    let t := after ({ code [0xE8, 0xFF] with sp := 0x0001, f := 0xF0 })
    t.sp = 0x0000 ∧ t.f = 0x30 ∧ t.ticks = 16 := by decide +kernel

/-- spec/95_test_vectors.md 3.4. -/
theorem test_add_sp_negative :
    let t := after ({ code [0xE8, 0x80] with sp := 0x0100, f := 0xF0 })
    t.sp = 0x0080 ∧ t.f = 0x00 ∧ t.ticks = 16 := by decide +kernel

/-- spec/95_test_vectors.md 3.4. -/
theorem test_dec_sp :
    let t := after ({ code [0x3B] with sp := 0x0000, f := 0x00 })
    t.sp = 0xFFFF ∧ t.f = 0x00 ∧ t.ticks = 8 := by decide +kernel

/-- spec/95_test_vectors.md 3.5. -/
theorem test_rlca :
    let t := after ({ code [0x07] with a := 0x85, f := 0x00 })
    t.a = 0x0B ∧ t.f = 0x10 ∧ t.ticks = 4 := by decide +kernel

/-- spec/95_test_vectors.md 3.5. -/
theorem test_rra :
    let t := after ({ code [0x1F] with a := 0x00, f := 0x10 })
    t.a = 0x80 ∧ t.f = 0x00 ∧ t.ticks = 4 := by decide +kernel

/-- spec/95_test_vectors.md 3.5. -/
theorem test_rl_b :
    let t := after ({ code [0xCB, 0x10] with b := 0x80, f := 0x00 })
    t.b = 0x00 ∧ t.f = 0x90 ∧ t.ticks = 8 := by decide +kernel

/-- spec/95_test_vectors.md 3.5. -/
theorem test_sra_b :
    let t := after ({ code [0xCB, 0x28] with b := 0xA5, f := 0x00 })
    t.b = 0xD2 ∧ t.f = 0x10 ∧ t.ticks = 8 := by decide +kernel

/-- spec/95_test_vectors.md 3.5. -/
theorem test_swap_b :
    let t := after ({ code [0xCB, 0x30] with b := 0xA5, f := 0x00 })
    t.b = 0x5A ∧ t.f = 0x00 ∧ t.ticks = 8 := by decide +kernel

/-- spec/95_test_vectors.md 3.5. -/
theorem test_srl_b :
    let t := after ({ code [0xCB, 0x38] with b := 0xFF, f := 0x10 })
    t.b = 0x7F ∧ t.f = 0x10 ∧ t.ticks = 8 := by decide +kernel

/-- spec/95_test_vectors.md 3.5: the write-back is discarded by the cartridge. -/
theorem test_srl_rom :
    let t := after { code [0xCB, 0x3E] with h := 0x01, l := 0x00, f := 0x00 }
    t.f = 0x10 ∧ busRead t 0x0100 = 0xCB ∧ t.ticks = 16 := by decide +kernel

/-- spec/95_test_vectors.md 3.5. -/
theorem test_bit_7_h :
    let t := after ({ code [0xCB, 0x7C] with h := 0x7F, f := 0x00 })
    t.h = 0x7F ∧ t.f = 0xA0 ∧ t.ticks = 8 := by decide +kernel

/-- spec/95_test_vectors.md 3.5. -/
theorem test_res_0_a :
    let t := after ({ code [0xCB, 0x87] with a := 0xFF, f := 0xF0 })
    t.a = 0xFE ∧ t.f = 0xF0 ∧ t.ticks = 8 := by decide +kernel

/-- spec/95_test_vectors.md 3.5. -/
theorem test_set_3_at_hl :
    let t := after ({ code [0xCB, 0xDE] with h := 0xC0, l := 0x00 })
    busRead t 0xC000 = 0x08 ∧ t.f = 0xB0 ∧ t.ticks = 16 := by decide +kernel

/-- spec/95_test_vectors.md 3.6. -/
theorem test_jp_nz_not_taken :
    let t := after ({ code [0xC2, 0x50, 0x01] with f := 0x80 })
    t.pc = 0x0103 ∧ t.ticks = 12 := by decide +kernel

/-- spec/95_test_vectors.md 3.6. -/
theorem test_jp_hl :
    let t := after ({ code [0xE9] with h := 0xC0, l := 0x00 })
    t.pc = 0xC000 ∧ t.ticks = 4 := by decide +kernel

/-- spec/95_test_vectors.md 3.6. -/
theorem test_jr_back : let t := after (code [0x18, 0x80])
    t.pc = 0x0082 ∧ t.ticks = 12 := by decide +kernel

/-- spec/95_test_vectors.md 3.6. -/
theorem test_jr_c :
    let t := after ({ code [0x38, 0x10] with f := 0x10 })
    t.pc = 0x0112 ∧ t.ticks = 12 := by decide +kernel

/-- spec/95_test_vectors.md 3.6. -/
theorem test_call :
    let t := after ({ code [0xCD, 0x34, 0x12] with sp := 0xD000 })
    t.pc = 0x1234 ∧ t.sp = 0xCFFE ∧ busRead t 0xCFFF = 0x01 ∧ busRead t 0xCFFE = 0x03 ∧
      t.ticks = 24 := by decide +kernel

/-- spec/95_test_vectors.md 3.6. -/
theorem test_call_z_not_taken :
    let t := after ({ code [0xCC, 0x34, 0x12] with sp := 0xD000, f := 0x00 })
    t.pc = 0x0103 ∧ t.sp = 0xD000 ∧ t.ticks = 12 := by decide +kernel

/-- spec/95_test_vectors.md 3.6. -/
theorem test_rst_28 :
    let t := after ({ code [0xEF] with sp := 0xD000 })
    t.pc = 0x0028 ∧ busRead t 0xCFFE = 0x01 ∧ t.ticks = 16 := by decide +kernel

/-- spec/95_test_vectors.md 3.6. -/
theorem test_ret_nc_not_taken :
    let t := after ({ code [0xD0] with sp := 0xC000, f := 0x10 })
    t.pc = 0x0101 ∧ t.sp = 0xC000 ∧ t.ticks = 8 := by decide +kernel

/-- spec/95_test_vectors.md 3.6: RETI with a request pending dispatches in the same step. -/
theorem test_reti_then_dispatch :
    let t := after (placeBytes { code [0xD9] with sp := 0xC000, ie := 0x01, intf := 0x01 } 0xC000 [0x34, 0x12])
    t.pc = 0x0040 ∧ t.sp = 0xC000 ∧ t.ime = false ∧ t.intf = 0x00 ∧ t.ticks = 36 := by decide +kernel

/-- spec/95_test_vectors.md 3.7: no dispatch in the step of EI. -/
theorem test_ei_delay :
    let t := after ({ code [0xFB] with ie := 0x01, intf := 0x01 })
    t.ime = true ∧ t.pc = 0x0101 ∧ t.intf = 0x01 ∧ t.ticks = 4 := by decide +kernel

/-- spec/95_test_vectors.md 3.7. -/
theorem test_di :
    let t := after ({ code [0xF3] with ime := true, ie := 0x01 })
    t.ime = false ∧ t.imePending = false ∧ t.ticks = 4 := by decide +kernel

/-- spec/95_test_vectors.md 3.7: HALT with a request pending and IME set. -/
theorem test_halt_ime :
    let t := after ({ code [0x76] with ime := true, ie := 0x04, intf := 0x04 })
    t.pc = 0x0050 ∧ t.halted = false ∧ t.ime = false ∧ t.sp = 0xFFFC ∧ t.intf = 0x00 ∧
      t.ticks = 24 := by decide +kernel

/-- spec/95_test_vectors.md 3.7: the waking step fetches nothing. -/
theorem test_halted_wakes :
    let t := after ({ code [0x3C] with halted := true, ie := 0x04, intf := 0x04 })
    t.halted = false ∧ t.a = 0x01 ∧ t.pc = 0x0100 ∧ t.ticks = 4 := by decide +kernel

/-- spec/95_test_vectors.md 3.7. -/
theorem test_illegal :
    let t := after ({ code [0xD3] with ie := 0x01, intf := 0x01 })
    t.fatal = true ∧ t.fatalInfo = some ⟨0xD3, 0x0100, 4⟩ ∧ t.pc = 0x0101 ∧ t.ticks = 4 := by decide +kernel

/-- spec/95_test_vectors.md 3.7, with STOP_MODE = nop (log 3). -/
theorem test_stop_nop :
    let t := after (code [0x10, 0x55, 0x3C])
    t.pc = 0x0102 ∧ t.a = 0x01 ∧ t.ticks = 4 := by decide +kernel

/-- spec/95_test_vectors.md 3.10. -/
theorem test_priority :
    let t := after ({ code [0x00] with ime := true, ie := 0x1E, intf := 0x1F })
    t.pc = 0x0048 ∧ t.intf = 0x1D ∧ t.ticks = 24 := by decide +kernel

/-- spec/95_test_vectors.md 3.10: bits 7 to 5 take no part. -/
theorem test_no_dispatch_high_bits :
    let t := after ({ code [0x00] with ime := true, ie := 0xE0, intf := 0xFF })
    t.pc = 0x0101 ∧ t.intf = 0xFF ∧ t.ticks = 4 := by decide +kernel

/-- spec/95_test_vectors.md 4: the opcode is read from 0xFFFF, which is IE, and PC wraps. -/
theorem test_pc_wraps : (after { State.reset with pc := 0xFFFF }).pc = 0x0000 := by decide +kernel

/-! ### The bus, DMA, the timer, the picture pipeline -/

/-- spec/95_test_vectors.md 3.9. -/
theorem test_stat_write : busRead (busWrite State.reset 0xFF41 0xFF) 0xFF41 = 0xFA := by decide +kernel

/-- spec/95_test_vectors.md 3.9. -/
theorem test_ly_write_discarded : busRead (busWrite State.reset 0xFF44 0x99) 0xFF44 = 0x00 := by decide +kernel

/-- spec/95_test_vectors.md 3.9. -/
theorem test_echo_is_no_mirror :
    busRead (busWrite (busWrite State.reset 0xC123 0x5A) 0xE123 0x77) 0xC123 = 0x5A := by decide +kernel

/-- spec/95_test_vectors.md 3.9. -/
theorem test_dma_starts :
    let t := busWrite State.reset 0xFF46 0xC0
    busRead t 0xFF46 = 0xC0 ∧ t.dma.active = true ∧ t.dma.delay = 2 ∧ busRead t 0xFE00 = 0xFF := by decide +kernel

/-- spec/95_test_vectors.md L1.8: after cycle 3 one byte is copied. -/
theorem test_dma_third_cycle :
    let t := advance 3 (busWrite (placeBytes State.reset 0xC000 [0x03, 0x0A]) 0xFF46 0xC0)
    t.mem.read 0xFE00 = 0x03 ∧ t.mem.read 0xFE01 = 0x00 ∧ t.dma.nextByte = 1 := by decide +kernel

/-- spec/95_test_vectors.md 3.11, cycles 7 to 8. -/
theorem test_timer_reloads :
    let s := { State.reset with timer := .reference ⟨0x001C, 0xFF, 0x80, 0x05⟩ }
    (advance 1 s).timer = .reference ⟨0x0020, 0x80, 0x80, 0x05⟩ ∧ (advance 1 s).intf = 0x04 := by decide +kernel

/-- spec/95_test_vectors.md 3.12. -/
theorem test_line_start_timeline :
    busRead (advance 20 State.reset) 0xFF41 = 0x83 ∧ (advance 20 State.reset).ppu.dot = 80 := by decide +kernel

/-- spec/95_test_vectors.md 3.12: LYC=01 with LYC_IE set. -/
theorem test_line_end_lyc :
    let p := { Ppu.reset with mode := .hblank, dot := 455, lyc := 0x01, statEn := 0x40 }
    (ppuTick .default [] p).ly = 0x01 ∧ (ppuTick .default [] p).lycEq = true ∧
      ppuRequests .default [] p = [.stat] := by decide +kernel

/-- spec/95_test_vectors.md 3.13: the row 3C, 7E has indices 0 2 3 3 3 3 2 0. -/
theorem test_compose_row :
    let p := { Ppu.reset with bgp := 0xE4, fetcher := { Fetcher.reset with bgLo := 0x3C, bgHi := 0x7E } }
    composeTile .default p = [0xFFFFFFFF, 0xFF555555, 0xFF000000, 0xFF000000, 0xFF000000, 0xFF000000, 0xFF555555,
      0xFFFFFFFF] := by decide +kernel

/-- spec/49_ppu_fetcher.md R335: 0x9C00 + (0 + 7 - 7) div 8 + (9 div 8) * 32 = 0x9C20. -/
theorem test_window_tile :
    let p := { Ppu.reset with lcdc := 0xF1, wx := 7, wy := 0, windowLine := 9 }
    (fetcherStep .default [(0x9C20, 0x5A)] p).fetcher.bgTile = 0x5A ∧
      (fetcherStep .default [(0x9C20, 0x5A)] p).fetcher.bgIsWindow = true := by decide +kernel

/-- spec/49_ppu_fetcher.md R341, R342: the sprite covers the leftmost pixel only, index 3 over index 1. -/
theorem test_sprite_over_background :
    let f := { Fetcher.reset with bgLo := 0xFF, fetched := [⟨16, 8, 0, 0x00⟩], sprLo := [0x80], sprHi := [0x80] }
    let p := { Ppu.reset with lcdc := 0x93, bgp := 0xE4, obp0 := 0xE4, fetcher := f }
    (composeTile .default p).take 2 = [0xFF000000, 0xFFAAAAAA] := by decide +kernel

/-- spec/60_exceptions.md R390 with D34: a debug write is a bus write. -/
theorem test_debug_write_reaches_io :
    let t := hostMove State.reset (.debugWrite 0xFF0F 0x05)
    t.intf = 0x05 ∧ hostMove State.reset (.inspect 0xFF0F) = State.reset := by decide +kernel

/-! ### Witnesses: every hypothesis of a statement is met -/

/-- PushThenPopRestores, CallThenReturnComesBack; the stack at the top of high RAM. -/
theorem witness_push_then_pop :
    flagsInv State.reset ∧ storable State.reset (State.reset.sp - 1) = true ∧
      storable State.reset (State.reset.sp - 2) = true := by decide +kernel

/-- The same at the boundary: the high byte in IE. -/
theorem witness_push_then_pop_ie :
    let s := { State.reset with sp := 0x0000 }
    flagsInv s ∧ storable s (s.sp - 1) = true ∧ storable s (s.sp - 2) = true := by decide +kernel

/-- DaaMakesDecimalArithmetic: x at its greatest. -/
theorem witness_daa :
    { State.reset with a := bcd 99 }.a = bcd 99 ∧ 99 < 100 ∧ 0 < 100 ∧ bcd 99 = 0x99 := by decide +kernel

/-- JumpsSetPc, CallsPushReturnAddress, ReturnsPopPc: each condition met. -/
theorem witness_conditions_met :
    conditionMet 0x00 .nz = true ∧ conditionMet 0x80 .z = true ∧ conditionMet 0x00 .nc = true ∧
      conditionMet 0x10 .c = true := by decide +kernel

/-- The same: each condition not met. -/
theorem witness_conditions_unmet :
    conditionMet 0x80 .nz = false ∧ conditionMet 0x00 .z = false ∧ conditionMet 0x10 .nc = false ∧
      conditionMet 0x00 .c = false := by decide +kernel

/-- CallsPushReturnAddress: the first and the last restart. -/
theorem witness_rst_targets :
    (0x0000#16).toNat = 8 * (0 : Fin 8).val ∧ (0x0038#16).toNat = 8 * (7 : Fin 8).val := by decide +kernel

/-- WhoWritesTheRunState, StepKeepsTheInvariant,
HostMovesKeepTheInvariant: a step from a state with every invariant. -/
theorem witness_step : machineInv State.reset ∧ step State.reset = .next (after State.reset) ∧
    exec .nop State.reset = .next State.reset := by
  refine ⟨by decide +kernel, rfl, rfl⟩

/-- StepRunsTheDecodedInstruction: one, two and three bytes fetched. -/
theorem witness_step_runs :
    running (code [0x3C]) ∧ decode (fetchRun 1 (code [0x3C])).1 = .ok (.incA, []) ∧ Instr.incA ≠ .stop ∧
      decode (fetchRun 2 (code [0xCB, 0x37])).1 = .ok (.swapA, []) ∧
      decode (fetchRun 3 (code [0xC3, 0x50, 0x01])).1 = .ok (.jpN16 0x0150, []) := by
  have h1 : (fetchRun 1 (code [0x3C])).1 = [0x3C] := by decide +kernel
  have h2 : (fetchRun 2 (code [0xCB, 0x37])).1 = [0xCB, 0x37] := by decide +kernel
  have h3 : (fetchRun 3 (code [0xC3, 0x50, 0x01])).1 = [0xC3, 0x50, 0x01] := by decide +kernel
  rw [h1, h2, h3]
  exact ⟨by decide, rfl, by decide, rfl, rfl⟩

/-- StepRunsTheDecodedInstruction: STOP at PC. -/
theorem witness_stop_byte :
    running (code [0x10]) ∧ busRead (code [0x10]) (code [0x10]).pc = 0x10 := by decide +kernel

/-- StopSkipsItsSecondByte, EveryStepCompletes: both values of STOP_MODE. -/
theorem witness_stop_modes :
    State.reset.params.stopMode = .nop ∧
      { State.reset with params := .default }.params.stopMode = .refuse := by decide +kernel

/-- EveryStepCompletes: a byte that is not STOP. -/
theorem witness_no_stop :
    running (code [0x00]) ∧ busRead (code [0x00]) (code [0x00]).pc ≠ 0x10#8 := by decide +kernel

/-- PrefixRunsTheSecondTable. -/
theorem witness_prefix_byte :
    running (code [0xCB, 0x37]) ∧ busRead (code [0xCB, 0x37]) (code [0xCB, 0x37]).pc = 0xCB := by decide +kernel

/-- StepEndsWithOneInterruptCheck: no dispatch with IME clear. -/
theorem witness_check_ime_clear :
    State.reset.ime = false := by decide +kernel

/-- The same: nothing pending with IME set. -/
theorem witness_check_none_pending :
    let s := { State.reset with ime := true, ie := 0xE0, intf := 0xFF }
    s.intf &&& s.ie &&& 0x1F#8 = 0x00#8 := by decide +kernel

/-- The same: the lowest source, with every other pending. -/
theorem witness_check_first :
    let s := { State.reset with ime := true, ie := 0x1F, intf := 0x1F }
    s.ime = true ∧ s.intf.getLsbD (sourceIndex .vblank) = true ∧
      s.ie.getLsbD (sourceIndex .vblank) = true := by decide +kernel

/-- The same: the highest source alone. -/
theorem witness_check_last :
    let s := { State.reset with ime := true, ie := 0x1F, intf := 0x10 }
    s.ime = true ∧ s.intf.getLsbD (sourceIndex .joypad) = true ∧ s.ie.getLsbD (sourceIndex .joypad) = true ∧
      ∀ j, j < sourceIndex .joypad → s.intf.getLsbD j = false ∨ s.ie.getLsbD j = false := by decide +kernel

/-- HaltedStepTicksAndWakes: the waking clause. -/
theorem witness_halted_wake :
    let s := { State.reset with halted := true, ie := 0x10, intf := 0x10 }
    s.fatal = false ∧ s.halted = true ∧ (advance 1 s).intf &&& s.ie &&& 0x1F#8 ≠ 0x00#8 := by decide +kernel

/-- The same: the clauses in which it stays halted. -/
theorem witness_halted_stays :
    let s := { State.reset with halted := true, ie := 0x00, intf := 0xFF }
    s.fatal = false ∧ s.halted = true ∧ (advance 1 s).intf &&& s.ie &&& 0x1F#8 = 0x00#8 ∧
      s.ie &&& 0x1F#8 = 0x00#8 := by decide +kernel

/-- FatalOnlyFromEmptyOpcodes: the last empty opcode. -/
theorem witness_fatal :
    let s := code [0xFD]
    running s ∧ busRead s s.pc ∈ illegalOpcodes := by decide +kernel

/-- The same: no empty opcode, and a next state. -/
theorem witness_not_fatal :
    running (code [0xFE]) ∧ busRead (code [0xFE]) (code [0xFE]).pc ∉ illegalOpcodes ∧
      step (code [0xFE]) = .next (after (code [0xFE])) := by
  refine ⟨by decide, by decide +kernel, rfl⟩

/-- The same: a fatal state, and the host move that leaves it. -/
theorem witness_after_fatal :
    let s := { State.reset with fatal := true }
    s.fatal = true ∧ (hostMove s .reset).fatal = false := by decide +kernel

/-- HostMovesKeepTheInvariant: the record RESET, and a move that is no reset. -/
theorem witness_launch :
    launchInv State.reset.launch ∧ HostMove.stop ≠ .reset := by decide +kernel

/-- The same: the instances a reset meets, and a load. -/
theorem witness_host_moves :
    State.reset.timer = .reference RefTimer.reset ∧ { State.reset with timer := .external 0 }.timer = .external 0 ∧
      State.reset.joypad = .snapshot 0xFF ∧ (0xC000#16).toNat + [0x00#8, 0x76#8].length ≤ 65536 ∧
      (hostMove State.reset (.load .rom32k 0xC000 [0x00, 0x76])).mem.read 0xC001 = 0x76 := by decide +kernel

/-- TimeTouchesNoCpuState: no transfer running. -/
theorem witness_dma_at_rest :
    State.reset.dma.active = false := by decide +kernel

/-- EnableIsDelayedDisableIsNot: EI with a request pending. -/
theorem witness_enable :
    let s := { code [0xFB] with ie := 0x01, intf := 0x01 }
    running s ∧ s.ime = false ∧ busRead s s.pc = 0xFB := by decide +kernel

/-- The same: DI with a request pending. -/
theorem witness_disable :
    let s := { code [0xF3] with ime := true, ie := 0x01, intf := 0x01 }
    running s ∧ busRead s s.pc = 0xF3 := by decide +kernel

/-- BusReadsByTheAddressMap: both ends of every range. -/
theorem witness_address_map :
    State.reset.cart = .rom32k ∧
      [0x0000, 0x7FFF, 0x8000, 0x9FFF, 0xA000, 0xBFFF, 0xC000, 0xDFFF, 0xE000, 0xFDFF, 0xFE00, 0xFE9F, 0xFEA0, 0xFEFF,
        0xFF00, 0xFF7F, 0xFF80, 0xFFFE, 0xFFFF].map regionOf =
      [.cartRom, .cartRom, .vram, .vram, .cartRam, .cartRam, .wram, .wram, .echo, .echo, .oam, .oam, .prohibited,
        .prohibited, .io, .io, .hram, .hram, .ie] := by decide +kernel

/-- The same: an external cartridge. -/
theorem witness_external_cart :
    { State.reset with cart := .external 0 }.cart = .external 0 ∧ (0xBFFF#16).toNat < 0xC000 := by decide +kernel

/-- The same: where the rows of the I/O table and the unmapped gaps meet. -/
theorem witness_io_rows :
    [0xFF00, 0xFF03, 0xFF08, 0xFF0E, 0xFF0F, 0xFF10, 0xFF3F, 0xFF40, 0xFF4B, 0xFF4C, 0xFF7F].map ioRegAt =
      [.p1, .unmapped, .unmapped, .unmapped, .intf, .audio 0xFF10, .audio 0xFF3F, .lcdc, .wx, .unmapped,
      .unmapped] := by decide +kernel

/-- ReadAfterWrite: the first and the second clause. -/
theorem witness_read_after_write :
    storable State.reset 0x8000 = true ∧ storable State.reset 0xFFFF = true ∧ storable State.reset 0xFE9F = true ∧
      externalByte State.reset 0xFE00 = false ∧ 0xFE00#16 ≠ 0xFF45#16 ∧ 0xFF45#16 ≠ 0xFF46#16 := by decide +kernel

/-- ReadAfterWrite: IF, with the reference timer. -/
theorem witness_if_with_reference_timer :
    State.reset.timer = .reference RefTimer.reset ∧ externalByte State.reset 0xFF0F = false := by decide +kernel

/-- ReadAfterWrite: the third clause. -/
theorem witness_oam_closed :
    let s := busWrite State.reset 0xFF46 0xC0
    regionOf 0xFE00 = .oam ∧ s.dma.active = true := by decide +kernel

/-- StatusRegistersReadAndWrite. -/
theorem witness_stat :
    statInv State.reset.ppu ∧ statInv (busWrite State.reset 0xFF41 0xFF).ppu := by decide +kernel

/-- StatusRegistersReadAndWrite, TimerCountsAndOverflows: the default instances. -/
theorem witness_default_units :
    State.reset.joypad = .snapshot 0xFF ∧ State.reset.audio = .silent ∧
      State.reset.timer = .reference RefTimer.reset := by decide +kernel

/-- DmaCopiesOnePage: the ends of every range of pages. -/
theorem witness_dma_pages :
    let addr := fun (v : Byte) (j : Nat) => 256 * v.toNat + j
    State.reset.cart = .rom32k ∧ addr 0x7F 159 < 0x8000 ∧ (0x8000 ≤ addr 0x80 0 ∧ addr 0x9F 159 < 0xA000) ∧
      (0xA000 ≤ addr 0xA0 0 ∧ addr 0xBF 159 < 0xC000) ∧ (0xC000 ≤ addr 0xC0 0 ∧ addr 0xDF 159 < 0xE000) ∧
      (0xE000 ≤ addr 0xE0 0 ∧ addr 0xFD 159 < 0xFE00) ∧ (0xFE00 ≤ addr 0xFE 0 ∧ addr 0xFE 159 < 0xFF00) ∧
      addr 0xFF 127 < 0xFF80 ∧ 0xFF80 ≤ addr 0xFF 128 := by decide +kernel

/-- The same: the unit at rest, in its delay, and at the last byte. -/
theorem witness_dma_tick :
    let s := busWrite State.reset 0xFF46 0xC0
    State.reset.dma.active = false ∧ (s.dma.active = true ∧ 0 < s.dma.delay) ∧
      (let d : Dma := ⟨true, 159, 0xC0, 0⟩; d.active = true ∧ d.delay = 0 ∧ d.nextByte < 160) := by decide +kernel

/-- TimerCountsAndOverflows: enabled, the last period; and disabled. -/
theorem witness_timer_runs :
    let t : RefTimer := ⟨0xFFFF, 0xFE, 0x00, 0x07⟩
    t.tac.getLsbD 2 = true ∧ t.tima ≠ 0xFF#8 ∧ t.tac.toNat % 4 = 3 ∧
      (⟨0, 0, 0, 0x03⟩ : RefTimer).tac.getLsbD 2 = false := by decide +kernel

/-- The same: a dot with an edge at the overflow, and one without. -/
theorem witness_timer_edges :
    let t : RefTimer := ⟨0x000F, 0xFF, 0x80, 0x05⟩
    t.tac.getLsbD 2 = true ∧ (t.div16.toNat + 1) % 16 = 0 ∧ t.tima = 0xFF#8 ∧
      (0x000E + 1) % 16 ≠ 0 := by decide +kernel

/-- ScanKeepsTenSortedSprites: one entry on line 0. -/
theorem witness_scan :
    let m : Memory := [(0xFE00, 0x10), (0xFE01, 0x08)]
    (lineScan m Ppu.reset).length = 1 ∧ (oamEntry m 0).y.toNat ≤ Ppu.reset.ly.toNat + 16 ∧
      Ppu.reset.ly.toNat + 16 < (oamEntry m 0).y.toNat + objHeight Ppu.reset := by decide +kernel

/-- FetcherIsFreshEachTransfer: the first clause. -/
theorem witness_fresh :
    let p := { Ppu.reset with dot := 79 }
    p.mode = .oamScan ∧ (ppuTick .default [] p).mode = .transfer := by decide +kernel

/-- The same: the second clause. -/
theorem witness_drained :
    let p := { Ppu.reset with mode := .transfer, dot := 296, fetcher := { Fetcher.reset with
      fifo := List.replicate 9 0, pushedX := 159, lineX := 159 } }
    p.mode = .transfer ∧ (ppuTick .default [] p).mode ≠ .transfer := by decide +kernel

/-- FetcherStatesInOrder: PUSH above and at the threshold. -/
theorem witness_push_state :
    let f := { Fetcher.reset with fstate := .push, fifo := List.replicate 9 0 }
    f.fstate = .push ∧ 8 < f.fifo.length ∧ { f with fifo := List.replicate 8 0 }.fifo.length ≤ 8 := by decide +kernel

/-- The same: TILE, at the greatest column and window line. -/
theorem witness_tile_state :
    let p := { Ppu.reset with windowLine := 143, fetcher := { Fetcher.reset with fetchX := 176 } }
    p.fetcher.fstate = .tile ∧ p.fetcher.fetchX ≤ 176 ∧ p.windowLine ≤ 143 := by decide +kernel

/-- The same: DATA_LO, DATA_HI and IDLE, with the last row of a tall sprite, flipped,
so that tile 2 gives its row 0. -/
theorem witness_data_states :
    let e : Sprite := ⟨0x17, 0x08, 0x03, 0x40⟩
    let f := { Fetcher.reset with fstate := .dataLo, fetched := [e] }
    let p := { Ppu.reset with ly := 0x16, lcdc := 0x95, fetcher := f }
    let q := fetcherStep .default [(0x8020, 0xAB), (0x8021, 0xCD)] p
    let r := fetcherStep .default [(0x8020, 0xAB), (0x8021, 0xCD)] q
    f.fetched[0]? = some e ∧ (e.y.toNat ≤ p.ly.toNat + 16 ∧ p.ly.toNat + 16 < e.y.toNat + 16) ∧
      p.fetcher.fstate = .dataLo ∧ q.fetcher.fstate = .dataHi ∧ r.fetcher.fstate = .idle ∧
      q.fetcher.sprLo = [0xAB] ∧ r.fetcher.sprHi = [0xCD] := by decide +kernel

/-- The same: the first row of a short sprite. -/
theorem witness_data_first_row :
    let e : Sprite := ⟨0x10, 0x08, 0x03, 0x00⟩
    let p := { Ppu.reset with fetcher := { Fetcher.reset with fstate := .dataLo, fetched := [e] } }
    (e.y.toNat ≤ p.ly.toNat + 16 ∧ p.ly.toNat + 16 < e.y.toNat + 8) ∧ p.fetcher.fstate = .dataLo ∧
      (fetcherStep .default [(0x8030, 0xAB)] p).fetcher.sprLo = [0xAB] := by decide +kernel

/-- PushPixelPopsTheOldest: the written and the dropped pixel, and the threshold. -/
theorem witness_push_pixel :
    let p := { Ppu.reset with scx := 0x07, fetcher := { Fetcher.reset with fifo := List.replicate 9 0, lineX := 7 } }
    p.fetcher.fifo = 0 :: List.replicate 8 0 ∧ 8 ≤ (List.replicate 8 (0 : Colour)).length ∧
      p.scx.toNat % 8 ≤ p.fetcher.lineX ∧ 6 < p.scx.toNat % 8 := by decide +kernel

/-- LineEndStepsLyAndRequests: the last visible line. -/
theorem witness_line_end :
    let s := { State.reset with ppu := { Ppu.reset with mode := .hblank, dot := 455, ly := 143 } }
    s.ppu.mode = .hblank ∧ 455 ≤ s.ppu.dot ∧ s.ppu.ly.toNat ≤ 143 := by decide +kernel

/-- The same: the window shown on the line just finished. -/
theorem witness_window_line :
    let p := { Ppu.reset with mode := .hblank, dot := 455, ly := 143, lcdc := 0x20, wx := 166, wy := 143 }
    let s := { State.reset with ppu := p }
    (s.ppu.mode = .hblank ∧ 455 ≤ s.ppu.dot ∧ s.ppu.ly.toNat ≤ 143) ∧
      (tickPpu s).ppu.windowLine = 1 := by decide +kernel

/-- The same: the last line of a frame. -/
theorem witness_line_wrap :
    let s := { State.reset with ppu := { Ppu.reset with mode := .vblank, dot := 455, ly := 153 } }
    s.ppu.mode = .vblank ∧ 455 ≤ s.ppu.dot ∧ (tickPpu s).ppu.mode = .oamScan := by decide +kernel

/-- The same: a dot of H-blank that only counts. -/
theorem witness_line_counts :
    let s := { State.reset with ppu := { Ppu.reset with mode := .hblank, dot := 454 } }
    s.ppu.mode = .hblank ∧ s.ppu.dot < 455 := by decide +kernel

/-- The same: the tick of the 160th pixel, with the H-blank enable set. -/
theorem witness_hblank_entry :
    let f := { Fetcher.reset with fifo := List.replicate 9 0, pushedX := 159, lineX := 159 }
    let p := { Ppu.reset with mode := .transfer, dot := 296, statEn := 0x08, fetcher := f }
    let s := { State.reset with ppu := p }
    s.ppu.mode = .transfer ∧ (tickPpu s).ppu.mode = .hblank ∧ (tickPpu s).intf = 0x02 := by decide +kernel

/-- The same, and ScanKeepsTenSortedSprites: the first and the last tick of OAM-scan. -/
theorem witness_oam_scan :
    let s := { State.reset with ppu := { Ppu.reset with dot := 79 } }
    State.reset.ppu.mode = .oamScan ∧ State.reset.ppu.dot = 0 ∧ s.ppu.mode = .oamScan ∧
      (tickPpu s).ppu.mode = .transfer := by decide +kernel

/-- TransferLengthByScroll, OneFrameIsSeventyThousandDots: the reset state. -/
theorem witness_line_start :
    Ppu.reset.mode = .oamScan ∧ Ppu.reset.dot = 0 ∧ Ppu.reset.ly = 0x00#8 := by decide +kernel

/-- DecodeInvertsEncode. -/
theorem witness_wellformed :
    Instr.nop.wellFormed = true ∧ Instr.nop ≠ .prefixCb ∧ (Instr.illegal 0xFD).wellFormed = true := by decide +kernel

end Sys2Proof.Tests
end

section
/-! What a running step fetches and runs (spec/46_system.md R270, R273, R276; spec/30_encoding.md R101). -/

namespace Sys2Proof.Machine

/-! ### The decoder, inverted -/

/-- The byte strings that are one whole instruction, by the opcode's slot of the first table (R100, R101). -/
inductive WholeInstr : List Byte → Instr → Prop
  | op {o : Byte} {i : Instr} : firstEntry o = .op i → WholeInstr [o] i
  | n8 {o n : Byte} {k : Byte → Instr} : firstEntry o = .n8 k → WholeInstr [o, n] (k n)
  | n16 {o lo hi : Byte} {k : Word → Instr} : firstEntry o = .n16 k → WholeInstr [o, lo, hi] (k (hi ++ lo))
  | skip {o x : Byte} {i : Instr} : firstEntry o = .skip i → WholeInstr [o, x] i
  | cb {o o2 : Byte} : firstEntry o = .cb → WholeInstr [o, o2] (secondEntry o2)
  | cbAlone {o : Byte} : firstEntry o = .cb → WholeInstr [o] .prefixCb

theorem decode_eq_ok_nil_iff {bs : List Byte} {i : Instr} : decode bs = .ok (i, []) ↔ WholeInstr bs i := by
  constructor
  · intro h
    match bs, h with
    | o :: rest, h =>
      cases he : firstEntry o <;> simp only [decode, he] at h
      case op j => cases h; exact .op he
      case n8 k =>
        match rest, h with
        | [_], rfl => exact .n8 he
      case n16 k =>
        match rest, h with
        | [_, _], rfl => exact .n16 he
      case skip j =>
        match rest, h with
        | [_], rfl => exact .skip he
      case cb =>
        match rest, h with
        | [_], rfl => exact .cb he
        | [], rfl => exact .cbAlone he
  · intro h
    cases h <;> simp only [decode, *]

/-- Whether an entry of the first table that skips a byte is STOP's. -/
def skipsOnlyStop : Entry → Bool
  | .skip i => decide (i = .stop)
  | _ => true

theorem firstEntry_skipsOnlyStop (op : Byte) : skipsOnlyStop (firstEntry op) = true := by
  revert op; decide +kernel

/-- STOP is the one instruction with a byte that is not looked at (R273). -/
theorem eq_stop_of_firstEntry_skip {op : Byte} {i : Instr} (h : firstEntry op = .skip i) : i = .stop := by
  have hs := firstEntry_skipsOnlyStop op
  rw [h] at hs
  exact of_decide_eq_true hs

/-! ### What is fetched -/

theorem fetchRun_length (n : Nat) : ∀ s, (fetchRun n s).1.length = n := by
  induction n with
  | zero => exact fun _ => rfl
  | succ n ih => exact fun s => congrArg (· + 1) (ih (fetch8 s).2)

theorem fetchInstr_op {s : State} {i : Instr} (h : firstEntry (fetch8 s).1 = .op i) :
    fetchInstr s = (i, (fetchRun 1 s).2) := by
  simp only [fetchInstr, h, fetchRun]

theorem fetchInstr_n8 {s : State} {k : Byte → Instr} (h : firstEntry (fetch8 s).1 = .n8 k) :
    fetchInstr s = (k (fetch8 (fetch8 s).2).1, (fetchRun 2 s).2) := by
  simp only [fetchInstr, h, fetchRun]

theorem fetchInstr_n16 {s : State} {k : Word → Instr} (h : firstEntry (fetch8 s).1 = .n16 k) :
    fetchInstr s = (k ((fetch8 (fetch8 (fetch8 s).2).2).1 ++ (fetch8 (fetch8 s).2).1), (fetchRun 3 s).2) := by
  simp only [fetchInstr, h, fetchRun, fetch16, wordOf]

theorem fetchInstr_skip {s : State} {i : Instr} (h : firstEntry (fetch8 s).1 = .skip i) :
    fetchInstr s = (i, (fetchRun 1 s).2) := by
  simp only [fetchInstr, h, fetchRun]

theorem fetchInstr_cb {s : State} (h : firstEntry (fetch8 s).1 = .cb) :
    fetchInstr s = (.prefixCb, (fetchRun 1 s).2) := by
  simp only [fetchInstr, h, fetchRun]

/-- PREFIX CB fetches one more byte and runs the second table's instruction for it (R276). -/
theorem exec_prefixCb_eq (s : State) : exec .prefixCb s = exec (secondEntry (fetch8 s).1) (fetch8 s).2 :=
  execSecond_eq (fetch8 s).1 (fetch8 s).2

/-- A running step runs what it fetched (R270). -/
theorem step_of_running {s : State} (h : running s) :
    step s = finishStep (exec (fetchInstr s).1 (fetchInstr s).2) := by
  obtain ⟨hfatal, hhalted⟩ := h
  simp [step, hfatal, hhalted]

/-- STOP apart, running what was fetched is running the whole instruction that the bytes at PC are: PREFIX CB alone
fetches and looks up its second byte itself (R101, R276). -/
theorem exec_fetchInstr_of_wholeInstr {s : State} {n : Nat} {i : Instr} (h : WholeInstr (fetchRun n s).1 i)
    (hi : i ≠ .stop) : exec (fetchInstr s).1 (fetchInstr s).2 = exec i (fetchRun n s).2 := by
  generalize hbs : (fetchRun n s).1 = bs at h
  obtain rfl : n = bs.length := by rw [← hbs, fetchRun_length]
  cases h with
  | op he => cases hbs; rw [fetchInstr_op he]; rfl
  | n8 he => cases hbs; rw [fetchInstr_n8 he]; rfl
  | n16 he => cases hbs; rw [fetchInstr_n16 he]; rfl
  | skip he => exact absurd (eq_stop_of_firstEntry_skip he) hi
  | cb he => cases hbs; rw [fetchInstr_cb he]; exact exec_prefixCb_eq _
  | cbAlone he => cases hbs; rw [fetchInstr_cb he]; rfl

/-! ### One fetch -/

theorem fetch8_eq (s : State) : fetch8 s = (busRead s s.pc, { readCycle s s.pc with pc := s.pc + 1 }) := by
  simp only [fetch8, memRead, advance_pc, afterRead_pc]

/-- One fetch is one cycle that reads at PC (R10). -/
theorem tookRead_fetch8 (s : State) : tookRead s (fetch8 s).2 s.pc := by
  have hout : outside (fetch8 s).2 = outside (readCycle s s.pc) := by rw [fetch8_eq]; rfl
  exact ⟨hout, fun b hb => (busRead_of_outside hout b).trans (busRead_readCycle s s.pc b hb)⟩

/-- Settles O34: the whole instructions are those of the decoder inverted; STOP's slot fetches its opcode alone. -/
theorem stepRunsTheDecodedInstruction : Obligations.StepRunsTheDecodedInstruction := by
  unfold Obligations.StepRunsTheDecodedInstruction
  refine ⟨fun s n i hrun hdec hi => ?_, fun s hrun hbyte => ?_, fun s => ?_⟩
  · rw [step_of_running hrun, exec_fetchInstr_of_wholeInstr (decode_eq_ok_nil_iff.1 hdec) hi]
  · have hstop : firstEntry (fetch8 s).1 = .skip .stop := by rw [fetch8_value, hbyte]; rfl
    rw [step_of_running hrun, fetchInstr_skip hstop]
  · have hpc : (fetch8 s).2.pc.toNat = (s.pc.toNat + 1) % 65536 := by simp
    have hregs : sameRegisters s (fetch8 s).2 := ⟨readReg_fetch8 s, fetch8_f s⟩
    have hcontrol : sameControl s (fetch8 s).2 := ⟨fetch8_halted s, fetch8_fatal s, fetch8_fatalInfo s,
      fetch8_stopRequested s, fetch8_ime s, fetch8_imePending s⟩
    exact ⟨fetch8_value s, hpc, hregs, fetch8_sp s, hcontrol, tookRead_fetch8 s⟩

end Sys2Proof.Machine
end

section
/-! What an instruction that answers a next state did, and what a step did: said once, with what follows of the run
state and of the invariants over all instructions and all steps (spec/10_state.md R23 to R43, spec/46_system.md R270). -/

namespace Sys2Proof.Machine

/-! ### What an instruction can do -/

/-- Instruction `i` took `s` to `t`: it kept the run state and the invariants, or it is one of the five whose rule
changes the run state (R260, R272, R274, R275, R277). -/
inductive ExecTo (s : State) : Instr → State → Prop
  | ordinary {i : Instr} {t : State} : Ordinary s t → ExecTo s i t
  | reti : ExecTo s .reti (returnFromInterrupt s)
  | halt : ExecTo s .halt { s with halted := true }
  | di : ExecTo s .di { s with ime := false, imePending := false }
  | ei : ExecTo s .ei { s with imePending := true }
  | illegal (op : Byte) : ExecTo s (.illegal op) (raiseFatal s op (s.pc - 1))

/-- What an instruction that answers a next state did. -/
theorem execTo_of_exec {s t : State} {i : Instr} (h : exec i s = .next t) : ExecTo s i t := by
  by_cases hi : special i = false
  · obtain ⟨u, hu, k⟩ := exec_ordinary s i hi
    cases hu.symm.trans h
    exact .ordinary k
  · cases i <;> try exact absurd rfl hi
    case reti => cases h; exact .reti
    case halt => cases h; exact .halt
    case di => cases h; exact .di
    case ei => cases h; exact .ei
    case illegal op => cases h; exact .illegal op
    case prefixCb =>
      obtain ⟨u, hu, k⟩ := execPrefixCb_ordinary s
      cases hu.symm.trans h
      exact .ordinary k
    case stop =>
      rcases execStop_cases s with ⟨-, hu⟩ | ⟨-, hu⟩ <;> cases hu.symm.trans h
      exact .ordinary (ordinary_pc s _)

/-- Settles O32: `ExecTo` names the five instructions that write the run state, each with what it writes. -/
theorem whoWritesTheRunState : Obligations.WhoWritesTheRunState := by
  unfold Obligations.WhoWritesTheRunState
  intro i s t h
  cases execTo_of_exec h with
  | ordinary k =>
    obtain ⟨hhalted, hfatal, -, hstop, hime, hpending⟩ := k.control
    exact ⟨fun e => .inl (hime ▸ e), fun e => .inl (hpending ▸ e), fun e => .inl (hhalted ▸ e),
      fun e => .inl (hfatal ▸ e), hstop⟩
  | reti => simp [returnFromInterrupt]
  | halt => simp
  | di => simp
  | ei => simp
  | illegal op => simp

/-! ### What every step keeps -/

/-- From `s` to `t` every invariant stays and the parameters are unchanged. -/
structure Keeps (s t : State) : Prop where
  inv : machineInv s → machineInv t
  build : sameBuild s t

theorem Keeps.refl (s : State) : Keeps s s := ⟨id, rfl, rfl⟩

theorem Keeps.trans {s t u : State} (h : Keeps s t) (k : Keeps t u) : Keeps s u :=
  ⟨k.inv ∘ h.inv, k.build.1.trans h.build.1, k.build.2.trans h.build.2⟩

theorem Ordinary.keeps {s t : State} (h : Ordinary s t) : Keeps s t := ⟨h.inv, h.build⟩

theorem keeps_exec {s t : State} {i : Instr} (h : exec i s = .next t) : Keeps s t := by
  refine ⟨fun hs => ?_, exec_sameBuild h⟩
  cases execTo_of_exec h with
  | ordinary k => exact k.inv hs
  | reti => exact machineInv_returnFromInterrupt hs
  | halt => exact (machineInv_halted s _).2 hs
  | di => exact (machineInv_ime2 s _ _).2 hs
  | ei => exact (machineInv_imePending s _).2 hs
  | illegal op => exact machineInv_raiseFatal op _ hs

theorem keeps_endOfStep (s : State) : Keeps s (endOfStep s) := ⟨machineInv_endOfStep, endOfStep_sameBuild s⟩

theorem keeps_haltedTick (s : State) : Keeps s (haltedTick s) := ⟨machineInv_haltedTick, haltedTick_sameBuild s⟩

/-- Fetching an instruction is fetching one, two or three bytes. -/
theorem ordinary_fetchInstr (s : State) : Ordinary s (fetchInstr s).2 := by
  unfold fetchInstr
  simp only
  split
  · exact ordinary_fetch8 s
  · exact (ordinary_fetch8 s).trans (ordinary_fetch8 _)
  · exact (ordinary_fetch8 s).trans (ordinary_fetch16 _)
  · exact ordinary_fetch8 s
  · exact ordinary_fetch8 s

/-- Step, inverted (R270): nothing after Fatal, a halted tick, or one instruction, with the end of a step after the last
two unless Fatal was raised. -/
theorem step_cases {s t : State} (h : step s = .next t) :
    t = s ∨ t = endOfStep (haltedTick s) ∨
    ∃ u, exec (fetchInstr s).1 (fetchInstr s).2 = .next u ∧ t = if u.fatal then u else endOfStep u := by
  unfold step at h
  split at h
  · cases h; exact .inl rfl
  · split at h
    · cases h; exact .inr (.inl rfl)
    · simp only at h
      generalize exec (fetchInstr s).1 (fetchInstr s).2 = r at h ⊢
      cases r <;> cases h
      exact .inr (.inr ⟨_, rfl, rfl⟩)

theorem keeps_step {s t : State} (h : step s = .next t) : Keeps s t := by
  rcases step_cases h with rfl | rfl | ⟨u, hu, rfl⟩
  · exact .refl _
  · exact (keeps_haltedTick s).trans (keeps_endOfStep _)
  · have k : Keeps s u := (ordinary_fetchInstr s).keeps.trans (keeps_exec hu)
    split
    · exact k
    · exact k.trans (keeps_endOfStep u)

/-- Settles O56: each part of a step keeps the invariants and the parameters. -/
theorem stepKeepsTheInvariant : Obligations.StepKeepsTheInvariant := by
  unfold Obligations.StepKeepsTheInvariant
  exact ⟨fun _ _ hs h => (keeps_step h).inv hs, fun _ _ h => (keeps_step h).build⟩

end Sys2Proof.Machine
end

section
/-! Bytes, words and the flag byte as naturals (spec/10_state.md R21, R23). -/

namespace Sys2Proof.Machine

theorem wordOf_toNat (hi lo : Byte) : (wordOf hi lo).toNat = 256 * hi.toNat + lo.toNat := by
  rw [wordOf, BitVec.toNat_append, ← Nat.shiftLeft_add_eq_or_of_lt lo.isLt, Nat.shiftLeft_eq, Nat.mul_comm]

theorem hiByte_toNat (v : Word) : (hiByte v).toNat = v.toNat / 256 := by
  rw [hiByte, BitVec.extractLsb'_toNat, Nat.shiftRight_eq_div_pow]
  have := v.isLt
  omega

theorem loByte_toNat (v : Word) : (loByte v).toNat = v.toNat % 256 := by
  rw [loByte, BitVec.extractLsb'_toNat, Nat.shiftRight_zero]

/-- The mask of a write of F rounds down to a multiple of 16. -/
theorem toNat_and_F0 (v : Byte) : (v &&& 0xF0#8).toNat = 16 * (v.toNat / 16) := by
  revert v; decide +kernel

/-- Settles O1: a pair is two bytes put together, a read and a write of F pass the mask, and the four flags are F's
upper bits. -/
theorem pairViewsAndFlagByte : Obligations.PairViewsAndFlagByte := by
  unfold Obligations.PairViewsAndFlagByte
  refine ⟨fun s => ⟨wordOf_toNat _ _, wordOf_toNat _ _, wordOf_toNat _ _, ?_⟩, fun v => ⟨hiByte_toNat v, loByte_toNat v⟩,
    fun s v => toNat_and_F0 v, by decide⟩
  rw [afOf, wordOf_toNat, readF, toNat_and_F0]

end Sys2Proof.Machine
end

section
/-! The stack in RAM: a word pushed and popped at once (spec/41_load16_stack.md R153, R154), and pairs that read alike. -/

namespace Sys2Proof.Machine

/-! ### What stays storable -/

theorem storable_congr {s t : State} (h : t.dma.active = s.dma.active) (a : Word) : storable t a = storable s a := by
  unfold storable
  rw [h]

/-- Time does not start a transfer. -/
theorem storable_advance (n : Nat) {s : State} {a : Word} (h : storable s a = true) : storable (advance n s) a = true := by
  unfold storable at h ⊢
  cases hr : regionOf a <;> simp only [hr] at h ⊢ <;> try exact h
  case oam =>
    have hidle : s.dma.active = false := by simpa using h
    simp [((advance_ticked n s).idle hidle).2, hidle]

/-- Storing in RAM does not start a transfer. -/
theorem storable_writeCycle {s : State} {a b : Word} (v : Byte) (ha : storable s a = true) (hb : storable s b = true) :
    storable (writeCycle s a v) b = true := by
  have hdma : (busWrite s a v).dma = s.dma := busWrite_dma s a v (storable_ne_trigger ha)
  exact storable_advance 1 ((storable_congr (by rw [hdma]) b).trans hb)

/-! ### Push, then pop -/

/-- Both bytes of a word pushed onto RAM stand there (R153). -/
theorem busRead_pushCycles {s : State} (v : Word) (hhi : storable s (s.sp - 1) = true) (hlo : storable s (s.sp - 2) = true) :
    busRead (pushCycles s v) (s.sp - 1) = hiByte v ∧ busRead (pushCycles s v) (s.sp - 2) = loByte v ∧
      steadyAddr (pushCycles s v) (s.sp - 1) = true := by
  have hlo' := storable_writeCycle (hiByte v) hhi hlo
  have hhi' := steadyAddr_of_storable (storable_writeCycle (hiByte v) hhi hhi)
  have hne : s.sp - 1 ≠ s.sp - 2 := by bv_omega
  refine ⟨?_, busRead_writeCycle_self _ _ _ hlo', steadyAddr_writeCycle _ _ _ _ hhi' fun _ => storable_ne_trigger hlo⟩
  rw [busRead_writeCycle_ne _ _ _ _ hne hhi' fun _ => storable_ne_trigger hlo, busRead_writeCycle_self _ _ _ hhi]

/-- A word pushed onto RAM is the word popped (R153, R154). -/
theorem pop16_push16 {s : State} (v : Word) (hhi : storable s (s.sp - 1) = true) (hlo : storable s (s.sp - 2) = true) :
    (pop16 (push16 s v)).1 = v := by
  obtain ⟨rhi, rlo, steady⟩ := busRead_pushCycles v hhi hlo
  have hout := push16_outside s v
  have hnext : s.sp - 2 + 1 = s.sp - 1 := by bv_omega
  rw [pop16_value, poppedWord, push16_sp, hnext, busRead_of_outside hout, rlo,
    busRead_of_outside (readCycle_of_outside hout _), busRead_readCycle _ _ _ steady, rhi, wordOf_halves]

/-! ### Pairs that read alike -/

theorem readStackPair_of_sameRegisters {s t : State} (h : sameRegisters s t) (rr : StackPair) :
    readStackPair t rr = readStackPair s rr := by
  obtain ⟨hregs, hf⟩ := h
  have ha : t.a = s.a := hregs .a
  have hb : t.b = s.b := hregs .b
  have hc : t.c = s.c := hregs .c
  have hd : t.d = s.d := hregs .d
  have he : t.e = s.e := hregs .e
  have hh : t.h = s.h := hregs .h
  have hl : t.l = s.l := hregs .l
  cases rr <;> simp only [readStackPair, bcOf, deOf, hlOf, afOf, readF, ha, hb, hc, hd, he, hh, hl, hf]

/-- A flag byte whose low nibble is zero is kept whole by the mask of every write (R23). -/
theorem mask_of_flagsInv {s : State} (h : flagsInv s) : s.f &&& 0xF0#8 = s.f := by
  have hsplit : s.f &&& 0xF0#8 ||| s.f &&& 0x0F#8 = s.f := by
    rw [← BitVec.and_or_distrib_left]
    exact BitVec.and_allOnes
  rwa [h, BitVec.or_zero] at hsplit

/-- Writing a pair with what it reads as changes nothing (R21, R23). -/
theorem writeStackPair_readStackPair {s : State} (hf : flagsInv s) (rr : StackPair) :
    writeStackPair s rr (readStackPair s rr) = s := by
  cases rr
  case af => simp only [writeStackPair, readStackPair, setAf, afOf, readF, writeF, hiByte_wordOf, loByte_wordOf,
    mask_of_flagsInv hf]
  all_goals simp only [writeStackPair, readStackPair, setBc, setDe, setHl, bcOf, deOf, hlOf, hiByte_wordOf, loByte_wordOf]

theorem exec_push (rr : StackPair) (s : State) : exec (.push rr) s = .next (pushPair s rr) := by cases rr <;> rfl

theorem exec_pop (rr : StackPair) (s : State) : exec (.pop rr) s = .next (popPair s rr) := by cases rr <;> rfl

/-- Settles O10: the word popped is what the pair still reads as, so writing it there changes nothing. -/
theorem pushThenPopRestores : Obligations.PushThenPopRestores := by
  unfold Obligations.PushThenPopRestores
  intro s rr hf hhi hlo
  have hregs : sameRegisters s (pop16 (pushPair s rr)).2 := by simp [sameRegisters, pushPair]
  have hflags : flagsInv (pop16 (pushPair s rr)).2 := by rw [flagsInv, hregs.2]; exact hf
  have hpair := readStackPair_of_sameRegisters hregs rr
  have hword : (pop16 (pushPair s rr)).1 = readStackPair s rr :=
    pop16_push16 _ (by rw [internal_sp]; exact storable_advance 1 hhi) (by rw [internal_sp]; exact storable_advance 1 hlo)
  have hpop : popPair (pushPair s rr) rr = (pop16 (pushPair s rr)).2 := by
    rw [popPair, hword, ← hpair]
    exact writeStackPair_readStackPair hflags rr
  refine ⟨_, _, exec_push rr s, exec_pop rr _, ?_⟩
  rw [hpop]
  exact ⟨hpair, by simp [pushPair], hregs⟩

end Sys2Proof.Machine
end

section
/-! The bus by the address map and the table of I/O registers: what a read gives and what a write leaves, one lemma for
each kind of row (spec/10_state.md R32 to R42, spec/20_memory.md R61 to R72). -/

namespace Sys2Proof.Machine

/-! ### The rows of the address map -/

section
variable {a : Word}

/-- Video RAM, work RAM and high RAM read from memory (R61). -/
theorem busRead_ram (s : State) (h : regionOf a ∈ [Region.vram, .wram, .hram]) : busRead s a = s.mem.read a.toNat := by
  unfold busRead
  simp only [List.mem_cons, List.not_mem_nil, or_false] at h
  rcases h with h | h | h <;> rw [h]

/-- The two cartridge windows are the cartridge's (R66). -/
theorem busRead_cart (s : State) (h : regionOf a ∈ [Region.cartRom, .cartRam]) : busRead s a = cartRead s a := by
  unfold busRead
  simp only [List.mem_cons, List.not_mem_nil, or_false] at h
  rcases h with h | h <;> rw [h]

theorem busRead_echo (s : State) (h : regionOf a = .echo) : busRead s a = s.params.echoRead := by
  unfold busRead
  rw [h]

theorem busRead_prohibited (s : State) (h : regionOf a = .prohibited) : busRead s a = s.params.prohibitedRead := by
  unfold busRead
  rw [h]

/-- Object memory is closed while a transfer runs (R69). -/
theorem busRead_oam (s : State) (h : regionOf a = .oam) :
    busRead s a = if s.dma.active then s.params.oamDmaRead else s.mem.read a.toNat := by
  unfold busRead
  rw [h]

theorem busRead_io (s : State) (h : regionOf a = .io) : busRead s a = ioRead s (ioRegAt a) := by
  unfold busRead
  rw [h]

theorem busWrite_io (s : State) (v : Byte) (h : regionOf a = .io) : busWrite s a v = ioWrite s (ioRegAt a) v := by
  unfold busWrite
  rw [h]

/-- The echo and prohibited ranges discard writes (R65). -/
theorem busWrite_discarded (s : State) (v : Byte) (h : regionOf a ∈ [Region.echo, .prohibited]) : busWrite s a v = s := by
  unfold busWrite
  simp only [List.mem_cons, List.not_mem_nil, or_false] at h
  rcases h with h | h <;> rw [h]

theorem cartRead_external {s : State} {own : Nat} (a : Word) (h : s.cart = .external own) :
    cartRead s a = Config.cartRead own a := by
  unfold cartRead
  rw [h]

theorem cartRead_rom32k {s : State} (a : Word) (h : s.cart = .rom32k) :
    cartRead s a = if a.toNat < 0x8000 then s.mem.read a.toNat else 0xFF#8 := by
  unfold cartRead
  rw [h]

/-! ### The rows of the I/O registers' table -/

theorem ioMap_rows : ∀ e ∈ ioMap, regionOf (BitVec.ofNat 16 e.1) = .io ∧ ioRegAt (BitVec.ofNat 16 e.1) = e.2 := by decide

/-- A row of the table names its register (R64). -/
theorem ioRegAt_of_row {r : IoReg} (h : (a.toNat, r) ∈ ioMap) : regionOf a = .io ∧ ioRegAt a = r := by
  simpa using ioMap_rows _ h

theorem busRead_row (s : State) {r : IoReg} (h : (a.toNat, r) ∈ ioMap) : busRead s a = ioRead s r := by
  obtain ⟨hio, hreg⟩ := ioRegAt_of_row h
  rw [busRead_io s hio, hreg]

theorem busWrite_row (s : State) {r : IoReg} (v : Byte) (h : (a.toNat, r) ∈ ioMap) : busWrite s a v = ioWrite s r v := by
  obtain ⟨hio, hreg⟩ := ioRegAt_of_row h
  rw [busWrite_io s v hio, hreg]

/-- The audio unit's range (R64, R72). -/
theorem ioRegAt_audio (hlo : 0xFF10 ≤ a.toNat) (hhi : a.toNat ≤ 0xFF3F) : regionOf a = .io ∧ ioRegAt a = .audio a := by
  obtain ⟨-, -, -, -, -, -, -, hio, -⟩ := regionOf_iff a
  exact ⟨hio.2 (by omega), if_pos ⟨hlo, hhi⟩⟩

end

/-- Settles O42: each range is a region of the map, each I/O address a row of the table, and each kind of row has its
lemma. -/
theorem busReadsByTheAddressMap : Obligations.BusReadsByTheAddressMap := by
  unfold Obligations.BusReadsByTheAddressMap
  intro s a
  obtain ⟨cartRom, vram, cartRam, wram, echo, oam, prohibited, io, hram, ie⟩ := regionOf_iff a
  refine ⟨fun h hc => ?_, fun h h' => busRead_ram s (by simp [vram.2 ⟨h, h'⟩]), fun h h' hc => ?_, fun own h hc => ?_,
    fun h h' => busRead_ram s (by simp [wram.2 ⟨h, h'⟩]), fun h h' => ?_, fun h h' => busRead_oam s (oam.2 ⟨h, h'⟩),
    fun h h' => ?_, fun row hrow h => ?_, fun h h' => ?_, fun h => ?_,
    fun h h' => busRead_ram s (by simp [hram.2 ⟨h, h'⟩]), fun h => ?_, afterRead_frame s a,
    fun n v => ⟨busRead_ticks s n a, afterRead_withTicks s n a, busWrite_withTicks s n a v⟩⟩
  · rw [busRead_cart s (by simp [cartRom.2 h]), cartRead_rom32k a hc, if_pos h]
  · rw [busRead_cart s (by simp [cartRam.2 ⟨h, h'⟩]), cartRead_rom32k a hc, if_neg (by omega)]
  · have hwindow : regionOf a ∈ [Region.cartRom, .cartRam] := by
      rcases h with h | h
      · simp [cartRom.2 h]
      · simp [cartRam.2 h]
    rw [busRead_cart s hwindow, cartRead_external a hc]
  · have hr := echo.2 ⟨h, h'⟩
    exact ⟨busRead_echo s hr, fun v => busWrite_discarded s v (by simp [hr])⟩
  · have hr := prohibited.2 ⟨h, h'⟩
    exact ⟨busRead_prohibited s hr, fun v => busWrite_discarded s v (by simp [hr])⟩
  · have hread : row ∈ ioMap.map fun e => (e.1, ioRead s e.2) := hrow
    obtain ⟨⟨n, r⟩, hmem, rfl⟩ := List.mem_map.1 hread
    exact busRead_row s (h ▸ hmem)
  · obtain ⟨hr, hreg⟩ := ioRegAt_audio h h'
    rw [busRead_io s hr, hreg]; rfl
  · have hr := io.2 (by omega)
    have hreg := ioRegAt_unmapped h
    exact ⟨by rw [busRead_io s hr, hreg]; rfl, fun v => by rw [busWrite_io s v hr, hreg]; rfl⟩
  · unfold busRead
    rw [ie.2 h]

/-! ### What a write of a register leaves -/

/-- The core's own registers: those of no collaborator (R64, R71, R72, R380). -/
def coreRegister : IoReg → Bool
  | .p1 => false
  | .timer _ => false
  | .audio _ => false
  | .unmapped => false
  | _ => true

/-- The core's own registers that are read and written whole: all but STAT and LY (R32, R64). -/
def readsBack : IoReg → Bool
  | .stat => false
  | .ly => false
  | r => coreRegister r

theorem ioRead_ioWrite_self (s : State) {r : IoReg} (v : Byte) (h : readsBack r = true) :
    ioRead (ioWrite s r v) r = v := by
  cases r <;> first | rfl | cases h

theorem ioMap_ofNat : ∀ e ∈ ioMap, ((BitVec.ofNat 16 e.1).toNat, e.2) ∈ ioMap := by decide

theorem timerAddr_row (r : TimerReg) : ((timerAddr r).toNat, IoReg.timer r) ∈ ioMap := by cases r <;> decide

/-- What a timer may request is TIMER or nothing (R380). -/
theorem requestMask_timerIf (w : Byte) (b : Bool) :
    requestMask w (timerIf b) = w ∨ requestMask w (timerIf b) = w ||| 0x04#8 := by
  cases b
  · exact .inl rfl
  · exact .inr rfl

/-- A write of a timer register changes the timer and, if it is external, may set TIMER's bit of IF (R380). -/
theorem ioWrite_timer_intf (s : State) (r : TimerReg) (v : Byte) : ∃ t i, ioWrite s (.timer r) v =
    { s with timer := t, intf := i } ∧ (i = s.intf ∨ i = s.intf ||| 0x04#8) := by
  refine ⟨timerWrite s.timer r v, requestMask s.intf (timerWriteRequests s.timer r v), rfl, ?_⟩
  cases s.timer with
  | reference t => exact .inl rfl
  | external own => exact requestMask_timerIf s.intf _

/-- The reference timer takes a write and requests nothing (R381). -/
theorem busWrite_reference {s : State} {t : RefTimer} (r : TimerReg) (v : Byte) (h : s.timer = .reference t) :
    busWrite s (timerAddr r) v = { s with timer := .reference (refTimerWrite t r v) } := by
  rw [busWrite_row s v (timerAddr_row r)]
  simp only [ioWrite, h, timerWrite, timerWriteRequests]
  rfl

theorem refTimerRead_refTimerWrite (t : RefTimer) {r : TimerReg} (v : Byte) (h : r ≠ .div) :
    refTimerRead (refTimerWrite t r v) r = v := by
  cases r
  case div => exact absurd rfl h
  all_goals rfl

/-- The fields of a STAT read share no bit, so their union is their sum (R32, R64). -/
theorem toNat_or_statFields (lycEq : Bool) (mode : PpuMode) : ∀ en : Byte, en &&& 0x87#8 = 0x00#8 →
    (0x80#8 ||| (en &&& 0x78#8) ||| (if lycEq then 0x04#8 else 0x00#8) ||| modeCode mode).toNat =
      128 + en.toNat + 4 * lycEq.toNat + (modeCode mode).toNat := by
  cases lycEq <;> cases mode <;> decide +kernel

theorem modeCode_toNat (mode : PpuMode) : (modeCode mode).toNat =
    match mode with | .hblank => 0 | .vblank => 1 | .oamScan => 2 | .transfer => 3 := by
  cases mode <;> rfl

/-- Settles O44: the addresses are rows of the table, and IE's own; of each row the model's own write and read say what
is left and read back. -/
theorem statusRegistersReadAndWrite : Obligations.StatusRegistersReadAndWrite := by
  unfold Obligations.StatusRegistersReadAndWrite
  intro s v
  refine ⟨fun h => ?_, fun row hrow => ?_, fun a ha => ?_, busRead_row s (r := .ly) (by decide), fun w h => ?_,
    fun h a hlo hhi => ?_, fun t h => ⟨?_, fun row hrow => ?_, fun a ha => ?_⟩, fun a ha => ?_⟩
  · rw [busRead_row s (r := .stat) (by decide)]
    exact (toNat_or_statFields _ _ _ h).trans (congrArg _ (modeCode_toNat s.ppu.mode))
  · have hwrite : row ∈ (ioMap.filter fun e => coreRegister e.2).map
        (fun e => (BitVec.ofNat 16 e.1, ioWrite s e.2 v)) ++ [(0xFFFF#16, { s with ie := v })] := hrow
    rcases List.mem_append.1 hwrite with hio | hie
    · obtain ⟨e, he, rfl⟩ := List.mem_map.1 hio
      exact busWrite_row s v (ioMap_ofNat e (List.mem_filter.1 he).1)
    · cases List.mem_singleton.1 hie
      rfl
  · have haddr : a ∈ (ioMap.filter fun e => readsBack e.2).map (fun e => BitVec.ofNat 16 e.1) ++ [0xFFFF#16] := ha
    rcases List.mem_append.1 haddr with hio | hie
    · obtain ⟨e, he, rfl⟩ := List.mem_map.1 hio
      obtain ⟨hmem, hback⟩ := List.mem_filter.1 he
      rw [busRead_row _ (ioMap_ofNat e hmem), busWrite_row s v (ioMap_ofNat e hmem), ioRead_ioWrite_self s v hback]
    · cases List.mem_singleton.1 hie
      rfl
  · have hrow : ((0xFF00#16).toNat, IoReg.p1) ∈ ioMap := by decide
    rw [busRead_row s hrow, busWrite_row s v hrow, ioRead, ioWrite, h]
    exact ⟨rfl, by rw [joypadWrite, ← h]⟩
  · obtain ⟨hr, hreg⟩ := ioRegAt_audio hlo hhi
    rw [busRead_io s hr, busWrite_io s v hr, hreg, ioRead, ioWrite, h]
    exact ⟨rfl, by rw [audioWrite, ← h]⟩
  · rw [busRead_row s (r := .timer .div) (by decide), ioRead, h]
    exact congrArg (BitVec.ofNat 8) (Nat.shiftRight_eq_div_pow _ 8)
  · have hwrite : row ∈ [TimerReg.div, .tima, .tma, .tac].map fun r => (timerAddr r, refTimerWrite t r v) := hrow
    obtain ⟨r, -, rfl⟩ := List.mem_map.1 hwrite
    exact busWrite_reference r v h
  · have haddr : a ∈ [TimerReg.tima, .tma, .tac].map timerAddr := ha
    obtain ⟨r, hr, rfl⟩ := List.mem_map.1 haddr
    rw [busRead_row _ (timerAddr_row r), busWrite_reference r v h]
    exact refTimerRead_refTimerWrite t v fun hdiv => by simp [hdiv] at hr
  · have haddr : a ∈ [TimerReg.div, .tima, .tma, .tac].map timerAddr := ha
    obtain ⟨r, -, rfl⟩ := List.mem_map.1 haddr
    rw [busWrite_row s v (timerAddr_row r)]
    exact ioWrite_timer_intf s r v

end Sys2Proof.Machine
end

section
/-! A byte stored and read back (spec/20_memory.md R63, R67, R69). -/

namespace Sys2Proof.Machine

/-- While a transfer runs a store in object memory is discarded (R69). -/
theorem busWrite_oam_closed {s : State} {a : Word} (v : Byte) (hr : regionOf a = .oam) (hd : s.dma.active = true) :
    busWrite s a v = s := by
  unfold busWrite
  rw [hr]
  exact if_pos hd

/-- Settles O43: what is stored in RAM is read back, what is not stored to stays, and a closed OAM takes nothing; 0xFF0F is
the one address of IF. -/
theorem readAfterWrite : Obligations.ReadAfterWrite := by
  unfold Obligations.ReadAfterWrite
  refine ⟨busRead_busWrite_self, fun s a b v hne hown hoam hif => ?_, fun s a v => busWrite_oam_closed v⟩
  exact busRead_busWrite_ne' s a b v hne hown hoam fun hreg => hif (ioRegAt_intf hreg)

end Sys2Proof.Machine
end

section
/-! Which instructions and which steps complete: all but STOP where it is refused, and STOP comes from its own opcode
only (spec/20_memory.md R60, spec/46_system.md R270, R273, spec/60_exceptions.md R361). -/

namespace Sys2Proof.Machine

/-! ### STOP's slot of the first table -/

/-- No instruction of a slot of the first table is STOP, whatever the operand bytes, unless the slot skips a byte. -/
def StopIsSkipped : Entry → Prop
  | .op i => i ≠ .stop
  | .n8 k => ∀ n, k n ≠ .stop
  | .n16 k => ∀ w, k w ≠ .stop
  | .skip _ => True
  | .cb => True

/-- Slot by slot of the table's rows (R108). -/
theorem firstTable_stopIsSkipped : (firstTable.toList.flatMap Vector.toList).Forall StopIsSkipped := by
  repeat' apply And.intro
  all_goals simp [StopIsSkipped]

theorem firstEntry_stopIsSkipped (op : Byte) : StopIsSkipped (firstEntry op) :=
  List.forall_iff_forall_mem.1 firstTable_stopIsSkipped _ (List.mem_flatMap.2
    ⟨_, Vector.mem_toList_iff.2 (Vector.getElem_mem _), Vector.mem_toList_iff.2 (Vector.getElem_mem _)⟩)

/-- Whether a slot of the first table skips a byte. -/
def skipsByte : Entry → Bool
  | .skip _ => true
  | _ => false

/-- 0x10 is the one opcode whose slot skips a byte (R273). -/
theorem opcode_of_skipsByte : ∀ op : Byte, skipsByte (firstEntry op) = true → op = 0x10#8 := by decide +kernel

/-- A step fetches STOP only where its opcode stands at PC. -/
theorem busRead_of_fetchInstr_stop {s : State} (h : (fetchInstr s).1 = .stop) : busRead s s.pc = 0x10#8 := by
  have hslot := firstEntry_stopIsSkipped (fetch8 s).1
  cases he : firstEntry (fetch8 s).1 <;> rw [he] at hslot
  case op i => rw [fetchInstr_op he] at h; exact absurd h hslot
  case n8 k => rw [fetchInstr_n8 he] at h; exact absurd h (hslot _)
  case n16 k => rw [fetchInstr_n16 he] at h; exact absurd h (hslot _)
  case cb => rw [fetchInstr_cb he] at h; cases h
  case skip i =>
    have hskip : skipsByte (firstEntry (fetch8 s).1) = true := by rw [he]; rfl
    exact opcode_of_skipsByte _ hskip

/-! ### What completes -/

/-- Every instruction answers a next state, STOP where it is not refused (R273, R361). -/
theorem exec_completes {i : Instr} {s : State} (h : i = .stop → s.params.stopMode = .nop) :
    ∃ t, exec i s = .next t := by
  by_cases hi : special i = false
  · obtain ⟨t, ht, -⟩ := exec_ordinary s i hi
    exact ⟨t, ht⟩
  · cases i <;> try exact absurd rfl hi
    case reti | halt | di | ei | illegal => exact ⟨_, rfl⟩
    case prefixCb =>
      obtain ⟨t, ht, -⟩ := execPrefixCb_ordinary s
      exact ⟨t, ht⟩
    case stop =>
      rcases execStop_cases s with ⟨-, ht⟩ | ⟨hrefuse, -⟩
      · exact ⟨_, ht⟩
      · cases (h rfl).symm.trans hrefuse

/-- A step answers a next state: one after Fatal and a halted one always, a running one unless it fetches a STOP that is
refused (R270). -/
theorem step_completes {s : State} (h : (fetchInstr s).1 = .stop → s.params.stopMode = .nop) :
    ∃ t, step s = .next t := by
  have hparams : (fetchInstr s).2.params = s.params := (ordinary_fetchInstr s).build.1
  obtain ⟨t, ht⟩ := exec_completes (i := (fetchInstr s).1) (s := (fetchInstr s).2) (by rwa [hparams])
  unfold step
  split
  · exact ⟨_, rfl⟩
  · split
    · exact ⟨_, rfl⟩
    · exact ⟨_, congrArg finishStep ht⟩

/-- Settles O33: STOP is the one instruction that may not complete, and without its opcode at PC it is not fetched. -/
theorem everyStepCompletes : Obligations.EveryStepCompletes := by
  unfold Obligations.EveryStepCompletes
  refine ⟨fun i s => exec_completes, fun s hmode => step_completes fun _ => hmode, fun s _ hbyte => ?_⟩
  exact step_completes fun hstop => absurd (busRead_of_fetchInstr_stop hstop) hbyte

end Sys2Proof.Machine
end

section
/-! The decoder and the encoder: decoding what was encoded, and what three bytes decode to
(spec/30_encoding.md R100, R101, R107 to R109, R111, R113, R116, R278). -/

namespace Sys2Proof.Machine

/-! ### ILLEGAL rows -/

/-- The byte that an ILLEGAL row holds; no other instruction holds one (R111, R277). -/
def illegalByte : Instr → Option Byte
  | .illegal op => some op
  | _ => none

theorem illegalByte_eq_some {i : Instr} {op : Byte} : illegalByte i = some op ↔ i = .illegal op := by
  unfold illegalByte
  split
  · simp
  · next hne => exact ⟨nofun, fun h => absurd h (hne op)⟩

theorem wellFormed_iff {i : Instr} : i.wellFormed = true ↔ ∀ op, i = .illegal op → op ∈ illegalOpcodes := by
  unfold Instr.wellFormed
  split
  · simp
  · next hne => exact iff_of_true rfl fun op h => absurd h (hne op)

/-- The byte of the ILLEGAL row that a slot of the first table is. -/
def slotIllegalByte : Entry → Option Byte
  | .op i => illegalByte i
  | _ => none

/-- The first table's ILLEGAL rows stand at the 11 opcodes, each at the byte that it holds (R108, R111). -/
theorem slotIllegalByte_firstEntry : ∀ op : Byte,
    slotIllegalByte (firstEntry op) = if op ∈ illegalOpcodes then some op else none := by
  decide +kernel

theorem firstEntry_illegal {op : Byte} (h : op ∈ illegalOpcodes) : firstEntry op = .op (.illegal op) := by
  have hslot := slotIllegalByte_firstEntry op
  rw [if_pos h] at hslot
  cases he : firstEntry op <;> rw [he] at hslot
  case op i => rw [illegalByte_eq_some.1 hslot]
  all_goals cases hslot

theorem illegalByte_secondEntry : ∀ op : Byte, illegalByte (secondEntry op) = none := by decide +kernel

/-- No slot with bytes after its opcode answers an ILLEGAL row, whatever those bytes are. -/
def OperandSlotIsLegal : Entry → Prop
  | .op _ => True
  | .n8 k => ∀ n, illegalByte (k n) = none
  | .n16 k => ∀ w, illegalByte (k w) = none
  | .skip i => illegalByte i = none
  | .cb => True

/-- Slot by slot of the table's rows (R108). -/
theorem firstTable_operandSlotIsLegal : (firstTable.toList.flatMap Vector.toList).Forall OperandSlotIsLegal := by
  repeat' apply And.intro
  all_goals simp [OperandSlotIsLegal, illegalByte]

theorem firstEntry_mem (op : Byte) : firstEntry op ∈ firstTable.toList.flatMap Vector.toList :=
  List.mem_flatMap.2 ⟨_, Vector.mem_toList_iff.2 (Vector.getElem_mem _), Vector.mem_toList_iff.2 (Vector.getElem_mem _)⟩

theorem firstEntry_operandSlotIsLegal (op : Byte) : OperandSlotIsLegal (firstEntry op) :=
  List.forall_iff_forall_mem.1 firstTable_operandSlotIsLegal _ (firstEntry_mem op)

/-- A whole instruction is an ILLEGAL row where its first byte is one of the 11, and holds that byte (R111, R116). -/
theorem illegalByte_of_wholeInstr {op : Byte} {tail : List Byte} {i : Instr} (h : WholeInstr (op :: tail) i) :
    illegalByte i = if op ∈ illegalOpcodes then some op else none := by
  have hslot := slotIllegalByte_firstEntry op
  have hlegal := firstEntry_operandSlotIsLegal op
  cases h with
  | op he => rw [he] at hslot; exact hslot
  | n8 he => rw [he] at hslot hlegal; exact (hlegal _).trans hslot
  | n16 he => rw [he] at hslot hlegal; exact (hlegal _).trans hslot
  | skip he => rw [he] at hslot hlegal; exact hlegal.trans hslot
  | cb he => rw [he] at hslot; exact (illegalByte_secondEntry _).trans hslot
  | cbAlone he => rw [he] at hslot; exact hslot

/-! ### Decoding what was encoded -/

/-- The decoder reads an encoding to its end: an operand word is its low byte, then its high byte, and every other
encoding is a row of the tables as it stands (R101, R107 to R109). -/
theorem decode_encode {i : Instr} (h : i.wellFormed = true) : decode (encode i) = .ok (i, []) := by
  cases i
  case illegal op => exact decode_eq_ok_nil_iff.2 (.op (firstEntry_illegal (wellFormed_iff.1 h op rfl)))
  case ldBcN16 n | ldAtN16Sp n | ldDeN16 n | ldHlN16 n | ldSpN16 n | jpNzN16 n | jpN16 n | callNzN16 n | jpZN16 n
      | callZN16 n | callN16 n | jpNcN16 n | callNcN16 n | jpCN16 n | callCN16 n | ldAtN16A n | ldAAtN16 n =>
    exact Laws.Reached.decode_n16 rfl n
  all_goals rfl

/-- A whole instruction decodes the same whatever bytes follow, but for PREFIX CB, whose length counts only itself
(R113, R116). -/
theorem decode_append_of_wholeInstr {bs : List Byte} {i : Instr} (h : WholeInstr bs i) (hi : i ≠ .prefixCb)
    (rest : List Byte) : decode (bs ++ rest) = .ok (i, rest) := by
  cases h
  case cbAlone => exact absurd rfl hi
  all_goals simp only [decode, List.cons_append, List.nil_append, *]

/-- Settles O58: an encoding is a whole instruction, and only PREFIX CB is read on into the bytes that follow. -/
theorem decodeInvertsEncode : Obligations.DecodeInvertsEncode := by
  unfold Obligations.DecodeInvertsEncode
  refine ⟨fun i rest hwf hi => ?_, decode_encode rfl⟩
  exact decode_append_of_wholeInstr (decode_eq_ok_nil_iff.1 (decode_encode hwf)) hi rest

/-! ### Three bytes -/

/-- Three bytes are enough for every slot: they decode to a whole instruction that begins at the first (R100, R101). -/
theorem exists_decode_three (b0 b1 b2 : Byte) :
    ∃ i rest tail, decode [b0, b1, b2] = .ok (i, rest) ∧ WholeInstr (b0 :: tail) i := by
  cases he : firstEntry b0 <;> simp only [decode, he]
  case op i => exact ⟨i, _, _, rfl, .op he⟩
  case n8 k => exact ⟨_, _, _, rfl, .n8 (n := b1) he⟩
  case n16 k => exact ⟨_, _, _, rfl, .n16 (lo := b1) (hi := b2) he⟩
  case skip i => exact ⟨i, _, _, rfl, .skip (x := b1) he⟩
  case cb => exact ⟨_, _, _, rfl, .cb (o2 := b1) he⟩

/-- Settles O59: three bytes decode to a whole instruction, which is an ILLEGAL row as its first byte says. -/
theorem decodeIsTotalAndWellFormed : Obligations.DecodeIsTotalAndWellFormed := by
  unfold Obligations.DecodeIsTotalAndWellFormed
  refine ⟨fun b0 b1 b2 => ?_, rfl⟩
  obtain ⟨i, rest, tail, hdecode, hwhole⟩ := exists_decode_three b0 b1 b2
  have hbyte := illegalByte_of_wholeInstr hwhole
  have hillegal : ∀ op, i = .illegal op ↔ op = b0 ∧ b0 ∈ illegalOpcodes := fun op => by
    rw [← illegalByte_eq_some, hbyte]
    split <;> simp [*, eq_comm]
  refine ⟨i, rest, hdecode, wellFormed_iff.2 fun op h => ?_, ?_, fun op h => ((hillegal op).1 h).1⟩
  · obtain ⟨rfl, hmem⟩ := (hillegal op).1 h
    exact hmem
  · exact (hillegal b0).trans (and_iff_right rfl)

/-! ### Words written out -/

/-- Settles O60: each row of the tables as it stands (R107 to R109). -/
theorem decodeKnownWords : Obligations.DecodeKnownWords := by
  unfold Obligations.DecodeKnownWords
  exact ⟨rfl, rfl, rfl, rfl, rfl, rfl, rfl, rfl, rfl, rfl, rfl, rfl, rfl⟩

end Sys2Proof.Machine
end

section
/-! 8-bit loads (spec/40_load8.md R130 to R148): what a register move, a load, a store and a step of HL leave of the
CPU's registers and of the machine outside the CPU. -/

namespace Sys2Proof.Machine

/-! ### What is left alone -/

theorem sameFlow_trans {s t u : State} (h : sameFlow s t) (k : sameFlow t u) : sameFlow s u := by
  obtain ⟨hsp, hpc, hhalted, hfatal, hinfo, hstop, hime, hpending⟩ := h
  obtain ⟨ksp, kpc, khalted, kfatal, kinfo, kstop, kime, kpending⟩ := k
  exact ⟨ksp.trans hsp, kpc.trans hpc, khalted.trans hhalted, kfatal.trans hfatal, kinfo.trans hinfo, kstop.trans hstop,
    kime.trans hime, kpending.trans hpending⟩

/-- Two operations in a row leave the registers that neither of them writes. -/
theorem sameRegistersBut_trans {ps qs : List Reg8} {s t u : State} (h : sameRegistersBut ps s t)
    (k : sameRegistersBut qs t u) : sameRegistersBut (ps ++ qs) s u := fun r hr => by
  rw [List.mem_append, not_or] at hr
  exact (k r hr.2).trans (h r hr.1)

/-- A state that differs in the CPU's registers only has the same bus and the same units (R21). -/
theorem sameOutside_of_outside {s t : State} (h : outside t = outside s) : sameOutside s t := by
  refine ⟨busRead_of_outside h, ?_⟩
  rw [eq_withCpu_of_outside h]
  exact ⟨rfl, rfl, rfl, rfl, rfl, rfl, rfl, rfl, rfl, rfl, rfl, rfl, rfl, rfl, rfl⟩

/-- The machine outside the CPU says what a cycle that reads left on the bus. -/
theorem tookRead_of_outside {s t : State} {a : Word} (h : outside t = outside (readCycle s a)) : tookRead s t a :=
  ⟨h, fun b hb => (busRead_of_outside h b).trans (busRead_readCycle s a b hb)⟩

/-- The machine outside the CPU says what a cycle that writes left on the bus. -/
theorem tookWrite_of_outside {s t : State} {a : Word} {v : Byte} (h : outside t = outside (writeCycle s a v)) :
    tookWrite s t a v := by
  refine ⟨h, fun b ⟨hne, hsteady, hoam⟩ => ?_, fun hram => ?_⟩
  · exact (busRead_of_outside h b).trans
      (busRead_writeCycle_ne s a b v (by simpa using hne) hsteady fun ho e => hoam ho (by simp [e]))
  · exact (busRead_of_outside h a).trans (busRead_writeCycle_self s a v hram)

/-! ### A register written -/

theorem sameRegistersBut_writeReg (s : State) (r : Reg8) (v : Byte) : sameRegistersBut [r] s (writeReg s r v) :=
  fun _ hq => readReg_writeReg_ne s v (by simpa using hq)

theorem sameFlow_writeReg (s : State) (r : Reg8) (v : Byte) : sameFlow s (writeReg s r v) :=
  ⟨writeReg_sp s r v, writeReg_pc s r v, (ordinary_writeReg s r v).control⟩

@[simp] theorem outside_writeReg (s : State) (r : Reg8) (v : Byte) : outside (writeReg s r v) = outside s := by
  cases r <;> rfl

theorem exec_ldRegReg (dst src : Reg8) (s : State) : exec (.ldRegReg dst src) s = .next (writeReg s dst (readReg s src)) := by
  cases dst <;> cases src <;> rfl

theorem exec_ldRegImm (dst : Reg8) (n : Byte) (s : State) : exec (.ldRegImm dst n) s = .next (writeReg s dst n) := by
  cases dst <;> rfl

/-- Settles O2: both forms write one register, which no bus address reaches. -/
theorem loadRegisterWritesOnlyDestination : Obligations.LoadRegisterWritesOnlyDestination := by
  unfold Obligations.LoadRegisterWritesOnlyDestination
  have written : ∀ (s : State) (dst : Reg8) (v : Byte), readReg (writeReg s dst v) dst = v ∧
      sameRegistersBut [dst] s (writeReg s dst v) ∧ (writeReg s dst v).f = s.f ∧ sameFlow s (writeReg s dst v) ∧
      sameOutside s (writeReg s dst v) := fun s dst v =>
    ⟨readReg_writeReg s dst v, sameRegistersBut_writeReg s dst v, writeReg_f s dst v, sameFlow_writeReg s dst v,
      sameOutside_of_outside (outside_writeReg s dst v)⟩
  exact ⟨fun s dst src => ⟨_, exec_ldRegReg dst src s, written s dst _⟩,
    fun s dst n => ⟨_, exec_ldRegImm dst n s, written s dst n⟩⟩

/-! ### A load from memory -/

theorem highPage_eq (o : Byte) : highPage o = BitVec.ofNat 16 (0xFF00 + o.toNat) := by
  apply BitVec.eq_of_toNat_eq
  simp [highPage]

@[simp] theorem readReg_loadReg (s : State) (r : Reg8) (a : Word) : readReg (loadReg s r a) r = busRead s a :=
  readReg_writeReg _ _ _

@[simp] theorem loadReg_f (s : State) (r : Reg8) (a : Word) : (loadReg s r a).f = s.f := by simp [loadReg]

theorem sameRegistersBut_loadReg (s : State) (r : Reg8) (a : Word) : sameRegistersBut [r] s (loadReg s r a) :=
  fun q hq => (sameRegistersBut_writeReg _ r _ q hq).trans (readReg_memRead s a q)

theorem sameFlow_loadReg (s : State) (r : Reg8) (a : Word) : sameFlow s (loadReg s r a) :=
  ⟨by simp [loadReg], by simp [loadReg], (ordinary_loadReg s r a).control⟩

theorem outside_loadReg (s : State) (r : Reg8) (a : Word) : outside (loadReg s r a) = outside (readCycle s a) :=
  outside_writeReg _ _ _

theorem exec_ldRegHl (dst : Reg8) (s : State) : exec (.ldRegHl dst) s = .next (loadReg s dst (hlOf s)) := by
  cases dst <;> rfl

/-- Settles O3: every form is one load at its address. -/
theorem loadFromMemoryReadsItsAddress : Obligations.LoadFromMemoryReadsItsAddress := by
  unfold Obligations.LoadFromMemoryReadsItsAddress
  intro s n w
  have loaded : ∀ (dst : Reg8) (a : Word), readReg (loadReg s dst a) dst = busRead s a ∧
      sameRegistersBut [dst] s (loadReg s dst a) ∧ (loadReg s dst a).f = s.f ∧ sameFlow s (loadReg s dst a) ∧
      tookRead s (loadReg s dst a) a := fun dst a =>
    ⟨readReg_loadReg s dst a, sameRegistersBut_loadReg s dst a, loadReg_f s dst a, sameFlow_loadReg s dst a,
      tookRead_of_outside (outside_loadReg s dst a)⟩
  refine ⟨fun dst => ⟨_, exec_ldRegHl dst s, loaded dst _⟩, fun ia hia => ⟨loadReg s .a ia.2, ?_, loaded .a ia.2⟩⟩
  simp only [← highPage_eq, List.mem_cons, List.not_mem_nil, or_false] at hia
  obtain rfl | rfl | rfl | rfl | rfl := hia <;> rfl

/-! ### A store -/

theorem sameRegisters_memWrite (s : State) (a : Word) (v : Byte) : sameRegisters s (memWrite s a v) :=
  ⟨readReg_memWrite s a v, memWrite_f s a v⟩

theorem sameFlow_memWrite (s : State) (a : Word) (v : Byte) : sameFlow s (memWrite s a v) :=
  ⟨memWrite_sp s a v, memWrite_pc s a v, (ordinary_memWrite s a v).control⟩

theorem exec_ldHlReg (r : Reg8) (s : State) : exec (.ldHlReg r) s = .next (memWrite s (hlOf s) (readReg s r)) := by
  cases r <;> rfl

/-- Settles O4: every form is one write at its address. -/
theorem storeWritesOnlyItsAddress : Obligations.StoreWritesOnlyItsAddress := by
  unfold Obligations.StoreWritesOnlyItsAddress
  intro s n w
  have stored : ∀ (a : Word) (v : Byte), sameRegisters s (memWrite s a v) ∧ sameFlow s (memWrite s a v) ∧
      tookWrite s (memWrite s a v) a v := fun a v =>
    ⟨sameRegisters_memWrite s a v, sameFlow_memWrite s a v, tookWrite_of_outside rfl⟩
  refine ⟨fun r => ⟨_, exec_ldHlReg r s, stored _ _⟩,
    fun iav hiav => ⟨memWrite s iav.2.1 iav.2.2, ?_, stored iav.2.1 iav.2.2⟩⟩
  simp only [← highPage_eq, List.mem_cons, List.not_mem_nil, or_false] at hiav
  obtain rfl | rfl | rfl | rfl | rfl | rfl := hiav <;> rfl

/-! ### A step of HL -/

/-- HL stepped by `k` modulo 2^16: up by 1 after a post-increment, up by 65535 after a post-decrement (R106). -/
def stepHl (s : State) (k : Nat) : State := setHl s (hlOf s + BitVec.ofNat 16 k)

theorem bumpHl_eq_stepHl (s : State) : bumpHl s = stepHl s 1 := rfl

theorem dropHl_eq_stepHl (s : State) : dropHl s = stepHl s 65535 := by
  have hback : hlOf s - 1 = hlOf s + 65535#16 := by bv_omega
  rw [dropHl, hback, stepHl]

@[simp] theorem hlOf_setHl (s : State) (v : Word) : hlOf (setHl s v) = v := wordOf_halves v

theorem hlOf_stepHl_toNat (s : State) (k : Nat) : (hlOf (stepHl s k)).toNat = ((hlOf s).toNat + k) % 65536 := by
  rw [stepHl, hlOf_setHl, BitVec.toNat_add, BitVec.toNat_ofNat, Nat.add_mod_mod]

theorem sameRegistersBut_setHl (s : State) (v : Word) : sameRegistersBut [.h, .l] s (setHl s v) := fun q hq => by
  cases q
  case h | l => simp at hq
  all_goals rfl

theorem sameFlow_setHl (s : State) (v : Word) : sameFlow s (setHl s v) :=
  ⟨setHl_sp s v, setHl_pc s v, (ordinary_setHl s v).control⟩

theorem outside_setHl (s : State) (v : Word) : outside (setHl s v) = outside s := rfl

/-- A step of HL after an access that left HL and F as they were: HL steps from its old value, and beside what the
access wrote no other register changes. -/
theorem stepHl_after {ps : List Reg8} {s t : State} (hregs : sameRegistersBut ps s t) (hh : .h ∉ ps) (hl : .l ∉ ps)
    (hf : t.f = s.f) (hflow : sameFlow s t) (k : Nat) :
    (hlOf (stepHl t k)).toNat = ((hlOf s).toNat + k) % 65536 ∧ sameRegistersBut (ps ++ [.h, .l]) s (stepHl t k) ∧
      (stepHl t k).f = s.f ∧ sameFlow s (stepHl t k) := by
  have hold : hlOf t = hlOf s := congrArg₂ wordOf (hregs .h hh) (hregs .l hl)
  exact ⟨by rw [hlOf_stepHl_toNat, hold], sameRegistersBut_trans hregs (sameRegistersBut_setHl t _), hf,
    sameFlow_trans hflow (sameFlow_setHl t _)⟩

/-- Settles O5: each form is a load or a store at HL and then a step of HL, which the access left as it was. -/
theorem postModifyStepsHl : Obligations.PostModifyStepsHl := by
  unfold Obligations.PostModifyStepsHl
  intro s
  constructor
  · intro form hform
    obtain ⟨hhl, hregs, hf, hflow⟩ := stepHl_after (sameRegistersBut_loadReg s .a (hlOf s)) (by decide) (by decide)
      (loadReg_f s .a _) (sameFlow_loadReg s .a _) form.2
    refine ⟨stepHl (loadReg s .a (hlOf s)) form.2, ?_, readReg_loadReg s .a _, hhl, hregs, hf, hflow,
      tookRead_of_outside (outside_loadReg s .a _)⟩
    simp only [List.mem_cons, List.not_mem_nil, or_false] at hform
    obtain rfl | rfl := hform
    · rw [← bumpHl_eq_stepHl]; rfl
    · rw [← dropHl_eq_stepHl]; rfl
  · intro form hform
    have hkept : sameRegistersBut [] s (memWrite s (hlOf s) s.a) := fun q _ => readReg_memWrite s _ _ q
    obtain ⟨hhl, hregs, hf, hflow⟩ := stepHl_after hkept (by decide) (by decide) (memWrite_f s _ _)
      (sameFlow_memWrite s _ _) form.2
    refine ⟨stepHl (memWrite s (hlOf s) s.a) form.2, ?_, hhl, hregs, hf, hflow, tookWrite_of_outside rfl⟩
    simp only [List.mem_cons, List.not_mem_nil, or_false] at hform
    obtain rfl | rfl := hform
    · rw [← bumpHl_eq_stepHl]; rfl
    · rw [← dropHl_eq_stepHl]; rfl

end Sys2Proof.Machine
end

section
/-! 16-bit loads and the stack (spec/41_load16_stack.md R150 to R155, spec/43_alu16.md R203): what a pair written, an
internal cycle, two stores of a word, a push and a pop leave of the CPU's registers and of the bus. -/

namespace Sys2Proof.Machine

/-! ### A pair written -/

theorem sameRegistersBut_writePair (s : State) (rr : RegPair) (v : Word) :
    sameRegistersBut (pairRegs rr) s (writePair s rr v) := fun q hq => by
  cases rr
  case hl => exact sameRegistersBut_setHl s v q hq
  case bc | de | sp => cases q <;> simp [pairRegs] at hq <;> rfl

theorem writePair_sp_of_ne (s : State) {rr : RegPair} (v : Word) (h : rr ≠ .sp) : (writePair s rr v).sp = s.sp := by
  cases rr
  case sp => exact absurd rfl h
  all_goals rfl

@[simp] theorem outside_writePair (s : State) (rr : RegPair) (v : Word) : outside (writePair s rr v) = outside s := by
  cases rr <;> rfl

theorem exec_ldPairImm (rr : RegPair) (n : Word) (s : State) : exec (.ldPairImm rr n) s = .next (writePair s rr n) := by
  cases rr <;> rfl

theorem sameRegistersBut_writeStackPair (s : State) (rr : StackPair) (v : Word) :
    sameRegistersBut (stackPairRegs rr) s (writeStackPair s rr v) := fun q hq => by
  cases rr
  case hl => exact sameRegistersBut_setHl s v q hq
  case bc | de | af => cases q <;> simp [stackPairRegs] at hq <;> rfl

theorem writeStackPair_f_of_ne (s : State) {rr : StackPair} (v : Word) (h : rr ≠ .af) :
    (writeStackPair s rr v).f = s.f := by
  cases rr
  case af => exact absurd rfl h
  all_goals rfl

@[simp] theorem outside_writeStackPair (s : State) (rr : StackPair) (v : Word) :
    outside (writeStackPair s rr v) = outside s := by
  cases rr <;> rfl

/-! ### Internal cycles -/

/-- Internal cycles after a change of the CPU's registers only (R10). -/
theorem tookCycles_of_outside {s t : State} (n : Nat) (h : outside t = outside s) : tookCycles n s (internals n t) := by
  have hout : outside (internals n t) = outside (advance n s) := advance_of_outside n h
  exact ⟨hout, fun a ha => (busRead_of_outside hout a).trans (busRead_advance n s a ha)⟩

theorem sameRegisters_internal (s : State) : sameRegisters s (internal s) := ⟨readReg_internal s, internal_f s⟩

/-! ### Two stores -/

/-- Two cycles that write leave every byte not stored to and not changed by ticks. -/
theorem busRead_twoWrites_untouched {s : State} {a b c : Word} (x y : Byte) (h : untouched s [a, b] c) :
    busRead (writeCycle (writeCycle s a x) b y) c = busRead s c := by
  obtain ⟨hstores, hsteady, htrigger⟩ := h
  simp only [List.mem_cons, List.not_mem_nil, or_false, not_or] at hstores htrigger
  obtain ⟨hca, hcb⟩ := hstores
  have ha : regionOf c = .oam → a ≠ 0xFF46#16 := fun hoam => Ne.symm (htrigger hoam).1
  have hb : regionOf c = .oam → b ≠ 0xFF46#16 := fun hoam => Ne.symm (htrigger hoam).2
  rw [busRead_writeCycle_ne _ _ _ _ hcb (steadyAddr_writeCycle _ _ _ _ hsteady ha) hb,
    busRead_writeCycle_ne _ _ _ _ hca hsteady ha]

/-- Two cycles that write in RAM, at two addresses, leave both bytes there. -/
theorem busRead_twoWrites_self {s : State} {a b : Word} (x y : Byte) (hne : a ≠ b) (ha : storable s a = true)
    (hb : storable s b = true) :
    busRead (writeCycle (writeCycle s a x) b y) a = x ∧ busRead (writeCycle (writeCycle s a x) b y) b = y := by
  have htrigger := storable_ne_trigger hb
  have hsteady : steadyAddr (writeCycle s a x) a = true := steadyAddr_of_storable (storable_writeCycle x ha ha)
  refine ⟨?_, busRead_writeCycle_self _ _ _ (storable_writeCycle x ha hb)⟩
  rw [busRead_writeCycle_ne _ _ _ _ hne hsteady fun _ => htrigger, busRead_writeCycle_self _ _ _ ha]

/-- A word stored high byte first, as `Push16` does (R153). -/
theorem storedWord_of_highFirst {s t : State} {hi lo : Word} {v : Word} (hne : hi ≠ lo)
    (h : outside t = outside (writeCycle (writeCycle s hi (hiByte v)) lo (loByte v))) : storedWord s t hi lo v := by
  refine ⟨fun b hb => ?_, fun hhi hlo => ?_⟩
  · rw [busRead_of_outside h, busRead_twoWrites_untouched _ _ hb]
  · rw [busRead_of_outside h, busRead_of_outside h]
    exact busRead_twoWrites_self _ _ hne hhi hlo

/-- A word stored low byte first (R75, R151). -/
theorem storedWord_of_lowFirst {s t : State} {hi lo : Word} {v : Word} (hne : hi ≠ lo)
    (h : outside t = outside (writeCycle (writeCycle s lo (loByte v)) hi (hiByte v))) : storedWord s t hi lo v := by
  refine ⟨fun b hb => ?_, fun hhi hlo => ?_⟩
  · have hswap : untouched s [lo, hi] b := by simpa [untouched, or_comm, and_comm] using hb
    rw [busRead_of_outside h, busRead_twoWrites_untouched _ _ hswap]
  · rw [busRead_of_outside h, busRead_of_outside h]
    exact (busRead_twoWrites_self _ _ hne.symm hlo hhi).symm

/-- Cycles before the stores change nothing that `storedWord` speaks of. -/
theorem storedWord_of_advance {n : Nat} {s t : State} {hi lo v : Word} (h : storedWord (advance n s) t hi lo v) :
    storedWord s t hi lo v := by
  obtain ⟨hrest, hboth⟩ := h
  refine ⟨fun b ⟨hstores, hsteady, htrigger⟩ => ?_, fun hhi hlo => ?_⟩
  · rw [hrest b ⟨hstores, steadyAddr_advance n s b hsteady, htrigger⟩, busRead_advance n s b hsteady]
  · exact hboth (storable_advance n hhi) (storable_advance n hlo)

theorem sameRegisters_memWrite16 (s : State) (a v : Word) : sameRegisters s (memWrite16 s a v) := by
  simp [sameRegisters, memWrite16]

theorem sameFlow_memWrite16 (s : State) (a v : Word) : sameFlow s (memWrite16 s a v) :=
  sameFlow_trans (sameFlow_memWrite s a _) (sameFlow_memWrite _ _ _)

/-- Settles O6: a pair written, SP written before an internal cycle, and two stores, the low byte first. -/
theorem sixteenBitLoads : Obligations.SixteenBitLoads := by
  unfold Obligations.SixteenBitLoads
  refine ⟨fun s rr n => ?_, fun s => ?_, fun s w => ?_⟩
  · exact ⟨_, exec_ldPairImm rr n s, readPair_writePair s rr n, sameRegistersBut_writePair s rr n, writePair_f s rr n,
      writePair_sp_of_ne s n, writePair_pc s rr n, (ordinary_writePair s rr n).control,
      sameOutside_of_outside (outside_writePair s rr n)⟩
  · have hcontrol : sameControl s (internal { s with sp := hlOf s }) :=
      ((ordinary_sp s (hlOf s)).trans (ordinary_internal _)).control
    exact ⟨_, rfl, internal_sp _, sameRegisters_internal { s with sp := hlOf s }, internal_pc _, hcontrol,
      tookCycles_of_outside 1 (outside_setSp s (hlOf s))⟩
  · have hne : w + 1 ≠ w := by bv_omega
    exact ⟨_, rfl, sameRegisters_memWrite16 s w s.sp, sameFlow_memWrite16 s w s.sp, rfl, storedWord_of_lowFirst hne rfl⟩

/-! ### SP-relative arithmetic -/

/-- Adding a displacement is adding it as a signed number, modulo 2^16 (R9, R105). -/
theorem add_sext16_toNat (w : Word) (e : Byte) : ((w + sext16 e).toNat : Int) = ((w.toNat : Int) + e.toInt) % 65536 := by
  rw [BitVec.toNat_add, sext16, BitVec.signExtend, BitVec.toNat_ofInt]
  omega

theorem packFlags_mask : ∀ z n h c : Bool, packFlags z n h c &&& 0xF0#8 = packFlags z n h c := by decide

theorem setSpRelFlags_f (s : State) (e : Byte) : (setSpRelFlags s e).f = packFlags false false
    (decide (15 < s.sp.toNat % 16 + e.toNat % 16)) (decide (255 < s.sp.toNat % 256 + e.toNat)) :=
  packFlags_mask _ _ _ _

@[simp] theorem readReg_setSpRelFlags (s : State) (e : Byte) (r : Reg8) :
    readReg (setSpRelFlags s e) r = readReg s r := by
  cases r <;> rfl

@[simp] theorem hlOf_setSpRelFlags (s : State) (e : Byte) : hlOf (setSpRelFlags s e) = hlOf s := rfl

@[simp] theorem hlOf_internal (s : State) : hlOf (internal s) = hlOf s := congrArg₂ wordOf (internal_h s) (internal_l s)

/-- Settles O7: the flags are set from the old SP and the sum goes to HL or SP; then one or two internal cycles. -/
theorem spRelativeArithmetic : Obligations.SpRelativeArithmetic := by
  unfold Obligations.SpRelativeArithmetic
  intro s e
  constructor
  · refine ⟨_, rfl, ?sum, ?flags, fun q hq => ?regs, ⟨internal_sp _, internal_pc _, ?control⟩,
      tookCycles_of_outside 1 (outside_setHl s (spRelative s e))⟩
    case sum =>
      rw [← add_sext16_toNat, hlOf_internal, hlOf_setSpRelFlags, hlOf_setHl, spRelative]
    case flags => rw [internal_f, setSpRelFlags_f, setHl_sp]
    case regs => rw [readReg_internal, readReg_setSpRelFlags, sameRegistersBut_setHl s _ q hq]
    case control => exact (((ordinary_setHl s _).trans (ordinary_setSpRelFlags _ e)).trans (ordinary_internal _)).control
  · refine ⟨_, rfl, ?sum, ?flags, fun q _ => ?regs, internals_pc _ 2, ?control,
      tookCycles_of_outside 2 (outside_setSp s (spRelative s e))⟩
    case sum => rw [← add_sext16_toNat, internals_sp, spRelative]
    case flags => rw [internals_f, setSpRelFlags_f]
    case regs => exact (readReg_internals _ 2 q).trans (readReg_setSpRelFlags s e q)
    case control => exact (((ordinary_setSpRelFlags s e).trans (ordinary_sp _ _)).trans (ordinary_internals 2 _)).control

/-! ### Push and pop -/

/-- Settles O8: the two stores follow the internal cycle, at addresses counted from the SP it leaves alone. -/
theorem pushStoresPairBelowSp : Obligations.PushStoresPairBelowSp := by
  unfold Obligations.PushStoresPairBelowSp
  intro s rr
  have hregs : sameRegisters s (pushPair s rr) := by simp [sameRegisters, pushPair]
  have hout : outside (pushPair s rr) = outside (pushCycles (advance 1 s) (readStackPair s rr)) := push16_outside _ _
  have hne : s.sp - 1 ≠ s.sp - 2 := by bv_omega
  have hstored : storedWord s (pushPair s rr) (s.sp - 1) (s.sp - 2) (readStackPair s rr) := by
    rw [pushCycles, advance_sp] at hout
    exact storedWord_of_advance (storedWord_of_highFirst hne hout)
  exact ⟨_, exec_push rr s, by simp [pushPair], hregs, by simp [pushPair], (ordinary_pushPair s rr).control, hout, hstored⟩

/-- Settles O9: the word popped is written to the pair, which no bus address reaches; AF's write masks F. -/
theorem popLoadsPairFromStack : Obligations.PopLoadsPairFromStack := by
  unfold Obligations.PopLoadsPairFromStack
  intro s rr
  have hpop : popPair s rr = writeStackPair (pop16 s).2 rr (poppedWord s) := by rw [popPair, pop16_value]
  have hout : outside (popPair s rr) = outside (popCycles s) := by rw [hpop, outside_writeStackPair, pop16_outside]
  have hcontrol := (ordinary_popPair s rr).control
  rw [hpop] at hout hcontrol
  refine ⟨_, (exec_pop rr s).trans (congrArg _ hpop), by simp, fun h => ⟨?_, ?_⟩, ?_, fun q hq => ?_, by simp, hcontrol,
    hout, fun b hb => ?_⟩
  · rw [readStackPair_writeStackPair, if_neg h]
  · rw [writeStackPair_f_of_ne _ _ h, pop16_f]
  · rintro rfl
    exact ⟨rfl, rfl⟩
  · rw [sameRegistersBut_writeStackPair _ rr _ q hq, readReg_pop16]
  · rw [busRead_of_outside hout, busRead_readCycle _ _ _ (steadyAddr_readCycle s _ b hb), busRead_readCycle _ _ _ hb]

end Sys2Proof.Machine
end

section
/-! 8-bit arithmetic and logic (spec/42_alu8.md R160 to R193): what a write of the flags, an accumulator operation, and a
read-modify-write of HL's byte leave of the CPU's registers and of the machine outside the CPU. -/

namespace Sys2Proof.Machine

/-! ### The flags written -/

/-- The flags written need no mask, and a flag not named stays what it was where F was kept so far (R10, R23). -/
theorem setFlags_f_of_sameF {s t : State} (hf : t.f = s.f) (z n h c : Option Bool) : (setFlags t z n h c).f =
    packFlags (z.getD (flagZ s)) (n.getD (flagN s)) (h.getD (flagH s)) (c.getD (flagC s)) := by
  rw [setFlags_f, packFlags_mask]
  simp only [flagZ, flagN, flagH, flagC, hf]

theorem flagC_of_sameF {s t : State} (hf : t.f = s.f) : flagC t = flagC s := congrArg (·.getLsbD 4) hf

theorem sameRegistersBut_setFlags {rs : List Reg8} {s t : State} (k : sameRegistersBut rs s t) (z n h c : Option Bool) :
    sameRegistersBut rs s (setFlags t z n h c) := fun q hq => (readReg_setFlags t z n h c q).trans (k q hq)

theorem sameFlow_setFlags {s t : State} (k : sameFlow s t) (z n h c : Option Bool) :
    sameFlow s (setFlags t z n h c) := k

@[simp] theorem outside_setFlags (s : State) (z n h c : Option Bool) : outside (setFlags s z n h c) = outside s := rfl

theorem sameFlow_refl (s : State) : sameFlow s s := ⟨rfl, rfl, (Ordinary.refl s).control⟩

/-- The flags and nothing else. -/
theorem setFlags_effect (s : State) (z n h c : Option Bool) :
    let t := setFlags s z n h c
    t.f = packFlags (z.getD (flagZ s)) (n.getD (flagN s)) (h.getD (flagH s)) (c.getD (flagC s)) ∧
      sameRegistersBut [] s t ∧ sameFlow s t ∧ sameOutside s t :=
  ⟨setFlags_f_of_sameF rfl z n h c, sameRegistersBut_setFlags (fun _ _ => rfl) z n h c,
    sameFlow_setFlags (sameFlow_refl s) z n h c, sameOutside_of_outside (outside_setFlags s z n h c)⟩

/-! ### An accumulator operation -/

/-- The state once the operand has been fetched: a cycle later for the byte at HL, at once for the other forms. -/
def afterOperand (s : State) : AluOperand → State
  | .reg _ => s
  | .atHl => (memRead s (hlOf s)).2
  | .imm _ => s

theorem exec_aluOf (op : AluOp) (o : AluOperand) (s : State) :
    exec (aluOf op o) s = .next (aluAcc (afterOperand s o) op (operandOf s o)) := by
  cases o with
  | reg r => cases op <;> cases r <;> rfl
  | atHl => cases op <;> rfl
  | imm n => cases op <;> rfl

theorem sameRegisters_afterOperand (s : State) (o : AluOperand) : sameRegisters s (afterOperand s o) := by
  cases o with
  | atHl => exact ⟨readReg_memRead s _, memRead_f s _⟩
  | reg | imm => exact ⟨fun _ => rfl, rfl⟩

theorem sameFlow_afterOperand (s : State) (o : AluOperand) : sameFlow s (afterOperand s o) := by
  cases o with
  | atHl => exact ⟨memRead_sp s _, memRead_pc s _, (ordinary_memRead s _).control⟩
  | reg | imm => exact sameFlow_refl s

theorem operandTime_of_outside {s t : State} (o : AluOperand) (h : outside t = outside (afterOperand s o)) :
    operandTime s t o := by
  cases o with
  | atHl => exact tookRead_of_outside h
  | reg | imm => exact sameOutside_of_outside h

theorem aluAcc_f (s : State) (op : AluOp) (b : Byte) :
    (aluAcc s op b).f = packFlags (aluFn op s.a b (flagC s)).z (aluFn op s.a b (flagC s)).n
      (aluFn op s.a b (flagC s)).h (aluFn op s.a b (flagC s)).c :=
  packFlags_mask _ _ _ _

/-- The result goes to A, but CP stores none. -/
theorem aluAcc_a (s : State) (op : AluOp) (b : Byte) :
    (aluAcc s op b).a = if op = .cp then s.a else (aluFn op s.a b (flagC s)).result := by
  rw [aluAcc, setFlags_a, apply_ite State.a]

theorem sameRegistersBut_aluAcc (s : State) (op : AluOp) (b : Byte) : sameRegistersBut [.a] s (aluAcc s op b) := by
  refine sameRegistersBut_setFlags ?_ _ _ _ _
  split
  · exact fun _ _ => rfl
  · exact sameRegistersBut_writeReg s .a _

theorem sameFlow_aluAcc (s : State) (op : AluOp) (b : Byte) : sameFlow s (aluAcc s op b) := by
  refine ⟨?_, ?_, (ordinary_aluAcc s op b).control⟩ <;> cases op <;> rfl

theorem outside_aluAcc (s : State) (op : AluOp) (b : Byte) : outside (aluAcc s op b) = outside s := by
  cases op <;> rfl

/-- What an accumulator operation does over its three operand forms: the function of A, the operand and the carry gives A
and the flags (R162 to R185). -/
theorem exec_aluOf_effect (s : State) (op : AluOp) (o : AluOperand) :
    let r := aluFn op s.a (operandOf s o) (flagC s)
    ∃ t, exec (aluOf op o) s = .next t ∧ t.a = (if op = .cp then s.a else r.result) ∧ t.f = packFlags r.z r.n r.h r.c ∧
      sameRegistersBut [.a] s t ∧ sameFlow s t ∧ operandTime s t o := by
  obtain ⟨hregs, hf⟩ := sameRegisters_afterOperand s o
  have ha : (afterOperand s o).a = s.a := hregs .a
  have hc : flagC (afterOperand s o) = flagC s := flagC_of_sameF hf
  refine ⟨_, exec_aluOf op o s, ?_, ?_, fun q hq => ?_, ?_, operandTime_of_outside o (outside_aluAcc _ op _)⟩
  · rw [aluAcc_a, ha, hc]
  · rw [aluAcc_f, ha, hc]
  · rw [sameRegistersBut_aluAcc _ op _ q hq, hregs]
  · exact sameFlow_trans (sameFlow_afterOperand s o) (sameFlow_aluAcc _ op _)

/-! ### Addition, subtraction, comparison -/

theorem aluFn_addition (withCarry : Bool) (a b : Byte) (carry : Bool) :
    aluFn (if withCarry then .adc else .add) a b carry = add8 a b (withCarry && carry) := by
  cases withCarry <;> rfl

theorem aluFn_subtraction (withCarry : Bool) (a b : Byte) (carry : Bool) :
    aluFn (if withCarry then .sbc else .sub) a b carry = sub8 a b (withCarry && carry) := by
  cases withCarry <;> rfl

theorem add8_result_toNat (a b : Byte) (cin : Bool) :
    (add8 a b cin).result.toNat = (a.toNat + b.toNat + cin.toNat) % 256 := BitVec.toNat_ofNat _ _

/-- The difference modulo 256, as the integer it stands for. -/
theorem sub8_result_toNat (a b : Byte) (cin : Bool) :
    ((sub8 a b cin).result.toNat : Int) = ((a.toNat : Int) - b.toNat - cin.toNat) % 256 := by
  rw [sub8, BitVec.toNat_ofInt]
  omega

/-- A borrow from bit 4 says that A's low digit is too small. -/
theorem sub8_h (a b : Byte) (cin : Bool) :
    (sub8 a b cin).h = decide (a.toNat % 16 < b.toNat % 16 + cin.toNat) := decide_eq_decide.2 (by omega)

/-- A borrow from bit 8 says that A is too small. -/
theorem sub8_c (a b : Byte) (cin : Bool) :
    (sub8 a b cin).c = decide (a.toNat < b.toNat + cin.toNat) := decide_eq_decide.2 (by omega)

/-- A difference of bytes without a borrow in is zero where they are equal. -/
theorem sub8_z_of_noBorrow (a b : Byte) : (sub8 a b false).z = decide (a = b) := by
  refine decide_eq_decide.2 ?_
  rw [← BitVec.toNat_inj, Bool.toNat_false]
  omega

/-- Settles O11: both are `add8`, ADC with the carry flag as its carry in. -/
theorem addWritesSumAndCarries : Obligations.AddWritesSumAndCarries := by
  unfold Obligations.AddWritesSumAndCarries
  intro s withCarry o
  have hop : (if withCarry then AluOp.adc else .add) ≠ .cp := by cases withCarry <;> decide
  obtain ⟨t, hexec, ha, hf, hframe⟩ := exec_aluOf_effect s (if withCarry then .adc else .add) o
  rw [if_neg hop, aluFn_addition] at ha
  rw [aluFn_addition] at hf
  exact ⟨t, hexec, by rw [ha, add8_result_toNat], hf, hframe⟩

/-- Settles O12: both are `sub8`, SBC with the carry flag as its borrow in. -/
theorem subtractWritesDifferenceAndBorrows : Obligations.SubtractWritesDifferenceAndBorrows := by
  unfold Obligations.SubtractWritesDifferenceAndBorrows
  intro s withCarry o
  have hop : (if withCarry then AluOp.sbc else .sub) ≠ .cp := by cases withCarry <;> decide
  obtain ⟨t, hexec, ha, hf, hframe⟩ := exec_aluOf_effect s (if withCarry then .sbc else .sub) o
  rw [if_neg hop, aluFn_subtraction] at ha
  rw [aluFn_subtraction, sub8_h, sub8_c] at hf
  exact ⟨t, hexec, by rw [ha, sub8_result_toNat], hf, hframe⟩

/-- Settles O13: the flags are those of `sub8` without a borrow in, and A is the one register that could have been
written. -/
theorem compareSetsFlagsOnly : Obligations.CompareSetsFlagsOnly := by
  unfold Obligations.CompareSetsFlagsOnly
  intro s o
  obtain ⟨t, hexec, ha, hf, hregs, hframe⟩ := exec_aluOf_effect s .cp o
  refine ⟨t, hexec, ?_, fun q _ => ?_, hframe⟩
  · rwa [aluFn, sub8_z_of_noBorrow, sub8_h, sub8_c, Bool.toNat_false, Nat.add_zero, Nat.add_zero] at hf
  · by_cases hq : q = .a
    · rw [hq]; exact ha
    · exact hregs q (by simpa using hq)

/-! ### Bit by bit -/

/-- Settles O14: each result is the bitwise operation of naturals, and its flags are fixed but for Z. -/
theorem logicWorksBitByBit : Obligations.LogicWorksBitByBit := by
  unfold Obligations.LogicWorksBitByBit
  intro s o opf hopf
  obtain ⟨t, hexec, ha, hf, hframe⟩ := exec_aluOf_effect s opf.1 o
  simp only [List.mem_cons, List.not_mem_nil, or_false] at hopf
  refine ⟨t, hexec, fun i _ => ?_, ?_, hframe⟩
  · obtain rfl | rfl | rfl := hopf <;> rw [ha]
    · exact Nat.testBit_and _ _ i
    · exact Nat.testBit_xor _ _ i
    · exact Nat.testBit_or _ _ i
  · obtain rfl | rfl | rfl := hopf <;> rw [hf, ha] <;> rfl

/-! ### A register or a byte of memory modified -/

/-- A register written and then the flags. -/
theorem writeReg_setFlags_effect (s : State) (r : Reg8) (v : Byte) (z n h c : Option Bool) :
    let t := setFlags (writeReg s r v) z n h c
    readReg t r = v ∧ t.f = packFlags (z.getD (flagZ s)) (n.getD (flagN s)) (h.getD (flagH s)) (c.getD (flagC s)) ∧
      sameRegistersBut [r] s t ∧ sameFlow s t ∧ sameOutside s t :=
  ⟨(readReg_setFlags _ z n h c r).trans (readReg_writeReg s r v), setFlags_f_of_sameF (writeReg_f s r v) z n h c,
    sameRegistersBut_setFlags (sameRegistersBut_writeReg s r v) z n h c,
    sameFlow_setFlags (sameFlow_writeReg s r v) z n h c, sameOutside_of_outside (outside_writeReg s r v)⟩

/-- Reading does not start a transfer. -/
theorem storable_readCycle {s : State} (a : Word) {b : Word} (h : storable s b = true) :
    storable (readCycle s a) b = true :=
  storable_advance 1 ((storable_congr (congrArg Dma.active (afterRead_dma s a)) b).trans h)

/-- The machine outside the CPU says what a cycle that reads and a cycle that writes there left on the bus (R75). -/
theorem tookModify_of_outside {s t : State} {a : Word} {v : Byte}
    (h : outside t = outside (writeCycle (readCycle s a) a v)) : tookModify s t a v := by
  obtain ⟨-, hrest, hself⟩ := tookWrite_of_outside h
  refine ⟨h, fun b ⟨hne, hsteady, hoam⟩ => ?_, fun hram => hself (storable_readCycle a hram)⟩
  rw [hrest b ⟨hne, steadyAddr_readCycle s a b hsteady, hoam⟩, busRead_readCycle s a b hsteady]

theorem hlOf_memRead (s : State) (a : Word) : hlOf (memRead s a).2 = hlOf s :=
  congrArg₂ wordOf (memRead_h s a) (memRead_l s a)

theorem modifyHl_eq (s : State) (g : Byte → Byte) : modifyHl s g =
    (busRead s (hlOf s), memWrite (memRead s (hlOf s)).2 (hlOf s) (g (busRead s (hlOf s)))) := by
  rw [modifyHl, hlOf_memRead, memRead_value]

/-- HL's byte modified and then the flags. -/
theorem modifyHl_setFlags_effect (s : State) (g : Byte → Byte) (z n h c : Option Bool) :
    let t := setFlags (modifyHl s g).2 z n h c
    t.f = packFlags (z.getD (flagZ s)) (n.getD (flagN s)) (h.getD (flagH s)) (c.getD (flagC s)) ∧
      sameRegistersBut [] s t ∧ sameFlow s t ∧ tookModify s t (hlOf s) (g (busRead s (hlOf s))) := by
  rw [modifyHl_eq]
  have hf := (memWrite_f (memRead s (hlOf s)).2 (hlOf s) (g (busRead s (hlOf s)))).trans (memRead_f s (hlOf s))
  refine ⟨setFlags_f_of_sameF hf z n h c, sameRegistersBut_setFlags (fun q _ => ?_) z n h c,
    sameFlow_setFlags ?_ z n h c, tookModify_of_outside rfl⟩
  · rw [readReg_memWrite, readReg_memRead]
  · exact sameFlow_trans (sameFlow_afterOperand s .atHl) (sameFlow_memWrite _ _ _)

/-! ### Increment and decrement -/

theorem incByte_eq_ofNat (v : Byte) : incByte v = BitVec.ofNat 8 (v.toNat + 1) := by rw [incByte]; bv_omega

theorem decByte_eq_ofNat (v : Byte) : decByte v = BitVec.ofNat 8 (v.toNat + 255) := by rw [decByte]; bv_omega

theorem incByte_toNat (v : Byte) : (incByte v).toNat = (v.toNat + 1) % 256 := by
  rw [incByte_eq_ofNat, BitVec.toNat_ofNat]

theorem decByte_toNat (v : Byte) : (decByte v).toNat = (v.toNat + 255) % 256 := by
  rw [decByte_eq_ofNat, BitVec.toNat_ofNat]

/-- The zero test of an increment, of the byte before it. -/
theorem decide_incByte_zero (v : Byte) : decide (incByte v = 0) = decide (v = 0xFF#8) :=
  decide_eq_decide.2 (by rw [incByte]; bv_omega)

/-- The zero test of a decrement, of the byte before it. -/
theorem decide_decByte_zero (v : Byte) : decide (decByte v = 0) = decide (v = 0x01#8) :=
  decide_eq_decide.2 (by rw [decByte]; bv_omega)

theorem exec_incReg (r : Reg8) (s : State) : exec (.incReg r) s = .next (incReg8 s r) := by cases r <;> rfl

theorem exec_decReg (r : Reg8) (s : State) : exec (.decReg r) s = .next (decReg8 s r) := by cases r <;> rfl

/-- Settles O15: the byte is stepped where it stands, and the flags are set of the byte read with C as it was. -/
theorem incDecKeepCarry : Obligations.IncDecKeepCarry := by
  unfold Obligations.IncDecKeepCarry
  refine ⟨fun s r => ⟨?_, ?_⟩, fun s => ⟨?_, ?_⟩⟩
  · rw [← incByte_toNat, ← decide_incByte_zero]
    obtain ⟨hvalue, hrest⟩ := writeReg_setFlags_effect s r (incByte (readReg s r)) _ _ _ _
    exact ⟨_, exec_incReg r s, congrArg BitVec.toNat hvalue, hrest⟩
  · rw [← decByte_toNat, ← decide_decByte_zero]
    obtain ⟨hvalue, hrest⟩ := writeReg_setFlags_effect s r (decByte (readReg s r)) _ _ _ _
    exact ⟨_, exec_decReg r s, congrArg BitVec.toNat hvalue, hrest⟩
  · rw [← incByte_eq_ofNat, ← decide_incByte_zero]
    exact ⟨_, rfl, modifyHl_setFlags_effect s incByte _ _ _ _⟩
  · rw [← decByte_eq_ofNat, ← decide_decByte_zero]
    exact ⟨_, rfl, modifyHl_setFlags_effect s decByte _ _ _ _⟩

/-! ### Decimal adjustment -/

/-- What DAA leaves: A corrected, with the flags of the correction. -/
theorem decimalAdjust_effect (s : State) :
    (decimalAdjust s).a = daaResult s.a (flagN s) (flagH s) (flagC s) ∧
      (decimalAdjust s).f = packFlags (decide ((decimalAdjust s).a = 0x00#8)) (flagN s) false
        (daaHigh s.a (flagN s) (flagC s)) ∧
      sameRegistersBut [.a] s (decimalAdjust s) ∧ sameFlow s (decimalAdjust s) ∧ sameOutside s (decimalAdjust s) :=
  writeReg_setFlags_effect s .a _ _ _ _ _

theorem daaAdjust_toNat (a : Byte) (n h c : Bool) :
    (daaAdjust a n h c).toNat = 6 * (daaLow a n h).toNat + 96 * (daaHigh a n c).toNat := by
  rw [daaAdjust]
  cases daaLow a n h <;> cases daaHigh a n c <;> rfl

/-- The corrected byte, as the integer it stands for (R190). -/
theorem daaResult_toNat (a : Byte) (n h c : Bool) : ((daaResult a n h c).toNat : Int) =
    (if n then (a.toNat : Int) - (6 * (daaLow a n h).toNat + 96 * (daaHigh a n c).toNat)
      else a.toNat + (6 * (daaLow a n h).toNat + 96 * (daaHigh a n c).toNat)) % 256 := by
  have hadj := daaAdjust_toNat a n h c
  have hlt := (daaAdjust a n h c).isLt
  rw [daaResult]
  cases n with
  | false => rw [if_neg Bool.false_ne_true, if_neg Bool.false_ne_true, BitVec.toNat_add]; omega
  | true => rw [if_pos rfl, if_pos rfl, BitVec.toNat_sub]; omega

/-- Settles O16: the model's two corrections are the table's, and C is the high one. -/
theorem daaCorrectsByTheTable : Obligations.DaaCorrectsByTheTable := by
  unfold Obligations.DaaCorrectsByTheTable
  intro s
  exact ⟨_, rfl, daaResult_toNat s.a (flagN s) (flagH s) (flagC s), (decimalAdjust_effect s).2⟩

/-! ### Decimal arithmetic -/

/-- The three flags that DAA looks at, of a flag byte put together (R23). -/
theorem flags_of_packFlags {s : State} {z n h c : Bool} (hf : s.f = packFlags z n h c) :
    flagN s = n ∧ flagH s = h ∧ flagC s = c := by
  rw [flagN, flagH, flagC, hf]
  clear hf
  revert z n h c
  decide

/-- An accumulator operation on an immediate and then DAA: the correction reads the operation's own result and flags. -/
theorem exec_daa_after_aluImm (s : State) {op : AluOp} (hop : op ≠ .cp) (m : Byte) :
    let r := aluFn op s.a m (flagC s)
    ∃ t u, exec (.aluImm op m) s = .next t ∧ exec .daa t = .next u ∧
      u.a = daaResult r.result r.n r.h r.c ∧ flagC u = daaHigh r.result r.n r.c := by
  obtain ⟨t, hexec, ha, hf, -⟩ := exec_aluOf_effect s op (.imm m)
  rw [if_neg hop] at ha
  obtain ⟨hn, hh, hc⟩ := flags_of_packFlags hf
  obtain ⟨hresult, hflags, -⟩ := decimalAdjust_effect t
  obtain ⟨-, -, hcarry⟩ := flags_of_packFlags hflags
  rw [ha, hn, hc] at hresult hcarry
  rw [hh] at hresult
  exact ⟨t, decimalAdjust t, hexec, rfl, hresult, hcarry⟩

theorem bcd_toNat {x : Nat} (h : x < 100) : (bcd x).toNat = 16 * (x / 10) + x % 10 := by
  rw [bcd, BitVec.toNat_ofNat]
  omega

/-- After a sum of two-digit bytes a correction is due where the decimal digits carry: the low one where the ones do, the
high one where the whole sum has a third digit. -/
theorem daa_corrections_add8_bcd {x y : Nat} (hx : x < 100) (hy : y < 100) :
    let r := add8 (bcd x) (bcd y) false
    daaLow r.result r.n r.h = decide (10 ≤ x % 10 + y % 10) ∧ daaHigh r.result r.n r.c = decide (100 ≤ x + y) := by
  have htwo : x + y < 100 → 16 * (x / 10) + x % 10 + (16 * (y / 10) + y % 10) ≤ 0x99 := by omega
  simp only [daaLow, daaHigh, add8_result_toNat]
  simp only [add8, bcd_toNat hx, bcd_toNat hy, Bool.toNat_false, Bool.not_false, Bool.true_and, ← Bool.decide_or,
    decide_eq_decide]
  omega

/-- After a subtraction the corrections are the borrows (R190). -/
theorem daaLow_subtracted (a : Byte) (h : Bool) : daaLow a true h = h := Bool.or_false h

theorem daaHigh_subtracted (a : Byte) (c : Bool) : daaHigh a true c = c := Bool.or_false c

/-- The borrows of a difference of two-digit bytes are those of its decimal digits. -/
theorem daa_corrections_sub8_bcd {x y : Nat} (hx : x < 100) (hy : y < 100) :
    let r := sub8 (bcd x) (bcd y) false
    daaLow r.result r.n r.h = decide (x % 10 < y % 10) ∧ daaHigh r.result r.n r.c = decide (x < y) := by
  refine ⟨(daaLow_subtracted _ _).trans ?_, (daaHigh_subtracted _ _).trans ?_⟩
  · rw [sub8_h, bcd_toNat hx, bcd_toNat hy, Bool.toNat_false, decide_eq_decide]
    omega
  · rw [sub8_c, bcd_toNat hx, bcd_toNat hy, Bool.toNat_false, decide_eq_decide]
    omega

/-- The corrected sum: a case for each way the two digits can carry. -/
theorem daaResult_add8_bcd {x y : Nat} (hx : x < 100) (hy : y < 100) :
    let r := add8 (bcd x) (bcd y) false
    daaResult r.result r.n r.h r.c = bcd ((x + y) % 100) := by
  obtain ⟨hlow, hhigh⟩ := daa_corrections_add8_bcd hx hy
  have hmod : (x + y) % 100 < 100 := Nat.mod_lt _ (by decide)
  rw [← BitVec.toNat_inj, ← Int.natCast_inj, daaResult_toNat, hlow, hhigh, add8_result_toNat, bcd_toNat hx,
    bcd_toNat hy, bcd_toNat hmod, add8, if_neg Bool.false_ne_true, Bool.toNat_false]
  rcases Nat.lt_or_ge (x % 10 + y % 10) 10 with hones | hones <;> rcases Nat.lt_or_ge (x + y) 100 with hsum | hsum <;>
    simp only [hones, hsum, Nat.not_le.2, decide_true, decide_false, Bool.toNat_true, Bool.toNat_false] <;> omega

/-- The corrected difference: a case for each way the two digits can borrow. -/
theorem daaResult_sub8_bcd {x y : Nat} (hx : x < 100) (hy : y < 100) :
    let r := sub8 (bcd x) (bcd y) false
    daaResult r.result r.n r.h r.c = bcd ((x + 100 - y) % 100) := by
  obtain ⟨hlow, hhigh⟩ := daa_corrections_sub8_bcd hx hy
  have hmod : (x + 100 - y) % 100 < 100 := Nat.mod_lt _ (by decide)
  rw [← BitVec.toNat_inj, ← Int.natCast_inj, daaResult_toNat, hlow, hhigh, sub8_result_toNat, bcd_toNat hx,
    bcd_toNat hy, bcd_toNat hmod, sub8, if_pos rfl, Bool.toNat_false]
  rcases Nat.lt_or_ge (x % 10) (y % 10) with hones | hones <;> rcases Nat.lt_or_ge x y with hdiff | hdiff <;>
    simp only [hones, hdiff, Nat.not_lt.2, decide_true, decide_false, Bool.toNat_true, Bool.toNat_false] <;> omega

/-- Settles O17: DAA reads the flags that the operation left, and there its corrections are the decimal carries or
borrows. -/
theorem daaMakesDecimalArithmetic : Obligations.DaaMakesDecimalArithmetic := by
  unfold Obligations.DaaMakesDecimalArithmetic
  intro s x y hx hy ha
  constructor
  · obtain ⟨t, u, ht, hu, hresult, hcarry⟩ := exec_daa_after_aluImm s (op := .add) (by decide) (bcd y)
    rw [ha] at hresult hcarry
    exact ⟨t, u, ht, hu, hresult.trans (daaResult_add8_bcd hx hy), hcarry.trans (daa_corrections_add8_bcd hx hy).2⟩
  · obtain ⟨t, u, ht, hu, hresult, hcarry⟩ := exec_daa_after_aluImm s (op := .sub) (by decide) (bcd y)
    rw [ha] at hresult hcarry
    exact ⟨t, u, ht, hu, hresult.trans (daaResult_sub8_bcd hx hy), hcarry.trans (daa_corrections_sub8_bcd hx hy).2⟩

/-! ### Complement and the carry flag -/

/-- Settles O18: each sets flags only, but for CPL's write of A. -/
theorem complementAndCarryFlags : Obligations.ComplementAndCarryFlags := by
  unfold Obligations.ComplementAndCarryFlags
  intro s
  obtain ⟨hvalue, hrest⟩ := writeReg_setFlags_effect s .a (~~~ s.a) none (some true) (some true) none
  exact ⟨⟨_, rfl, (congrArg BitVec.toNat hvalue).trans BitVec.toNat_not, hrest⟩,
    ⟨_, rfl, setFlags_effect s none (some false) (some false) (some true)⟩,
    ⟨_, rfl, setFlags_effect s none (some false) (some false) (some (!flagC s))⟩⟩

end Sys2Proof.Machine
end

section
/-! 16-bit addition to HL (spec/43_alu16.md R160, R200). -/

namespace Sys2Proof.Machine

theorem exec_addHlPair (rr : RegPair) (s : State) : exec (.addHlPair rr) s = .next (addToHl s (readPair s rr)) := by
  cases rr <;> rfl

theorem addToHl_f (s : State) (b : Word) :
    (addToHl s b).f = packFlags (flagZ s) false (halfCarry16 (hlOf s) b) (carry16 (hlOf s) b) := by
  rw [addToHl, internal_f, setFlags_f_of_sameF (setHl_f s _)]
  rfl

theorem hlOf_addToHl (s : State) (b : Word) : hlOf (addToHl s b) = hlOf s + b :=
  (hlOf_internal _).trans (hlOf_setHl s _)

theorem sameRegistersBut_addToHl (s : State) (b : Word) : sameRegistersBut [.h, .l] s (addToHl s b) := fun q hq => by
  rw [addToHl, readReg_internal, readReg_setFlags, sameRegistersBut_setHl s _ q hq]

theorem sameFlow_addToHl (s : State) (b : Word) : sameFlow s (addToHl s b) :=
  ⟨internal_sp _, internal_pc _, (ordinary_addToHl s b).control⟩

theorem tookCycles_addToHl (s : State) (b : Word) : tookCycles 1 s (addToHl s b) :=
  tookCycles_of_outside 1 (outside_setHl s (hlOf s + b))

/-- Settles O19: the sum goes to HL and the flags are the model's carries of a 16-bit addition; then one internal
cycle. -/
theorem addHlCarriesAtBitsElevenAndFifteen : Obligations.AddHlCarriesAtBitsElevenAndFifteen := by
  unfold Obligations.AddHlCarriesAtBitsElevenAndFifteen
  intro s rr
  exact ⟨_, exec_addHlPair rr s, by rw [hlOf_addToHl, BitVec.toNat_add], addToHl_f s _, sameRegistersBut_addToHl s _,
    sameFlow_addToHl s _, tookCycles_addToHl s _⟩

end Sys2Proof.Machine
end

section
/-! 16-bit increment and decrement (spec/43_alu16.md R201, R202): a pair written, then one internal cycle. -/

namespace Sys2Proof.Machine

theorem exec_incPair (rr : RegPair) (s : State) :
    exec (.incPair rr) s = .next (internal (writePair s rr (readPair s rr + 1))) := by
  cases rr <;> rfl

theorem exec_decPair (rr : RegPair) (s : State) :
    exec (.decPair rr) s = .next (internal (writePair s rr (readPair s rr - 1))) := by
  cases rr <;> rfl

@[simp] theorem readPair_internal (s : State) (rr : RegPair) : readPair (internal s) rr = readPair s rr := by
  cases rr
  case bc => exact congrArg₂ wordOf (internal_b s) (internal_c s)
  case de => exact congrArg₂ wordOf (internal_d s) (internal_e s)
  case hl => exact hlOf_internal s
  case sp => exact internal_sp s

/-- A pair written and one internal cycle: what the pair reads, and what stays of the machine. -/
theorem internal_writePair_effect (s : State) (rr : RegPair) (v : Word) :
    let t := internal (writePair s rr v)
    readPair t rr = v ∧ sameRegistersBut (pairRegs rr) s t ∧ t.f = s.f ∧ (rr ≠ .sp → t.sp = s.sp) ∧ t.pc = s.pc ∧
      sameControl s t ∧ tookCycles 1 s t :=
  ⟨(readPair_internal _ rr).trans (readPair_writePair s rr v),
    fun q hq => (readReg_internal _ q).trans (sameRegistersBut_writePair s rr v q hq),
    (internal_f _).trans (writePair_f s rr v), fun h => (internal_sp _).trans (writePair_sp_of_ne s v h),
    (internal_pc _).trans (writePair_pc s rr v), ((ordinary_writePair s rr v).trans (ordinary_internal _)).control,
    tookCycles_of_outside 1 (outside_writePair s rr v)⟩

/-- Settles O20: both write the stepped pair and take one internal cycle; a step down is a step up by 65535. -/
theorem incDecPairChangesNoFlag : Obligations.IncDecPairChangesNoFlag := by
  unfold Obligations.IncDecPairChangesNoFlag
  intro s rr id hid
  rw [List.mem_pair] at hid
  obtain rfl | rfl := hid
  · obtain ⟨hpair, hframe⟩ := internal_writePair_effect s rr (readPair s rr + 1)
    exact ⟨_, exec_incPair rr s, by rw [hpair, BitVec.toNat_add]; rfl, hframe⟩
  · obtain ⟨hpair, hframe⟩ := internal_writePair_effect s rr (readPair s rr - 1)
    have hdown : (readPair s rr - 1).toNat = ((readPair s rr).toNat + 65535) % 65536 := by bv_omega
    exact ⟨_, exec_decPair rr s, by rw [hpair, hdown], hframe⟩

end Sys2Proof.Machine
end

section
/-! Rotates, shifts and bit operations (spec/44_rotate_shift_bit.md R210 to R236): the shifter functions and the one-bit
functions as arithmetic of the byte, and what the instructions built on them leave of the machine. -/

namespace Sys2Proof.Machine

/-! ### The shifter functions -/

/-- Bits put side by side, as a sum. -/
theorem append_toNat {m n : Nat} (x : BitVec m) (y : BitVec n) : (x ++ y).toNat = 2 ^ n * x.toNat + y.toNat := by
  rw [BitVec.toNat_append, ← Nat.shiftLeft_add_eq_or_of_lt y.isLt, Nat.shiftLeft_eq, Nat.mul_comm]

theorem byte_top_bit (v : Byte) : v.getLsbD 7 = decide (128 ≤ v.toNat) := BitVec.msb_eq_decide v

theorem byte_low_bit (v : Byte) : v.getLsbD 0 = decide (v.toNat % 2 = 1) := Nat.testBit_zero _

/-- Each function cuts the byte, and the parts are its quotients and remainders; bit 7 is the one that RLC carries round
(R214). -/
theorem shiftFn_result_toNat (op : ShiftOp) (v : Byte) (cin : Bool) :
    (shiftFn op v cin).result.toNat = shiftedValue op v.toNat cin.toNat := by
  have hv := v.isLt
  have htop : v.toNat / 128 = 0 ∨ v.toNat / 128 = 1 := by omega
  have hcin := cin.toNat_lt
  cases op <;>
    simp only [shiftFn, rlc8, rrc8, rl8, rr8, sla8, sra8, swap8, srl8, shiftedValue, append_toNat,
      BitVec.extractLsb'_toNat, BitVec.toNat_ofBool, BitVec.toNat_ofNat, Nat.shiftRight_eq_div_pow,
      Nat.reducePow, Nat.div_one] <;>
    omega

theorem shiftFn_c (op : ShiftOp) (v : Byte) (cin : Bool) : (shiftFn op v cin).c = shiftedOut op v.toNat := by
  cases op
  case rlc | rl | sla => exact byte_top_bit v
  case rrc | rr | sra | srl => exact byte_low_bit v
  case swap => rfl

/-! ### The instructions that shift -/

theorem rotateAcc_effect (s : State) (op : ShiftOp) :
    (rotateAcc s op).a.toNat = shiftedValue op s.a.toNat (flagC s).toNat ∧
      (rotateAcc s op).f = packFlags false false false (shiftedOut op s.a.toNat) ∧
      sameRegistersBut [.a] s (rotateAcc s op) ∧ sameFlow s (rotateAcc s op) ∧ sameOutside s (rotateAcc s op) := by
  rw [← shiftFn_result_toNat, ← shiftFn_c op s.a (flagC s)]
  obtain ⟨hvalue, hrest⟩ := writeReg_setFlags_effect s .a (shiftFn op s.a (flagC s)).result _ _ _ _
  exact ⟨congrArg BitVec.toNat hvalue, hrest⟩

theorem shiftReg8_effect (s : State) (op : ShiftOp) (r : Reg8) :
    let t := shiftReg8 s op r
    (readReg t r).toNat = shiftedValue op (readReg s r).toNat (flagC s).toNat ∧
      t.f = packFlags (decide (readReg t r = 0x00#8)) false false (shiftedOut op (readReg s r).toNat) ∧
      sameRegistersBut [r] s t ∧ sameFlow s t ∧ sameOutside s t := by
  intro t
  obtain ⟨hvalue, hrest⟩ := writeReg_setFlags_effect s r (shiftFn op (readReg s r) (flagC s)).result _ _ _ _
  have hread : readReg t r = (shiftFn op (readReg s r) (flagC s)).result := hvalue
  rw [hread, shiftFn_result_toNat, ← shiftFn_c op _ (flagC s)]
  exact ⟨rfl, hrest⟩

/-- HL's byte shifted where it stands; the result is zero as a byte where it is zero as a natural. -/
theorem shiftHlByte_effect (s : State) (op : ShiftOp) :
    let v := (busRead s (hlOf s)).toNat
    let w := shiftedValue op v (flagC s).toNat
    let t := shiftHlByte s op
    t.f = packFlags (decide (w = 0)) false false (shiftedOut op v) ∧ sameRegistersBut [] s t ∧ sameFlow s t ∧
      tookModify s t (hlOf s) (BitVec.ofNat 8 w) := by
  intro v w t
  have hw : w = (shiftFn op (busRead s (hlOf s)) (flagC s)).result.toNat := (shiftFn_result_toNat op _ _).symm
  have hzero : decide (w = 0) = decide ((shiftFn op (busRead s (hlOf s)) (flagC s)).result = 0) :=
    decide_eq_decide.2 (by rw [hw, ← BitVec.toNat_inj]; rfl)
  rw [hzero, ← shiftFn_c op _ (flagC s), hw, BitVec.ofNat_toNat, BitVec.setWidth_eq]
  exact modifyHl_setFlags_effect s (fun b => (shiftFn op b (flagC s)).result) _ _ _ _

theorem exec_shiftReg (op : ShiftOp) (r : Reg8) (s : State) : exec (.shiftReg op r) s = .next (shiftReg8 s op r) := by
  cases op <;> cases r <;> rfl

theorem exec_shiftHl (op : ShiftOp) (s : State) : exec (.shiftHl op) s = .next (shiftHlByte s op) := by
  cases op <;> rfl

/-- Settles O21: every form stores its shifter function's result where it read the byte, and C is the bit that left. -/
theorem rotatesAndShiftsMoveOneBit : Obligations.RotatesAndShiftsMoveOneBit := by
  unfold Obligations.RotatesAndShiftsMoveOneBit
  refine ⟨fun s io hio => ⟨rotateAcc s io.2, ?_, rotateAcc_effect s io.2⟩, fun s op =>
    ⟨fun r => ⟨_, exec_shiftReg op r s, shiftReg8_effect s op r⟩, _, exec_shiftHl op s, shiftHlByte_effect s op⟩⟩
  simp only [List.mem_cons, List.not_mem_nil, or_false] at hio
  obtain rfl | rfl | rfl | rfl := hio <;> rfl

/-! ### The bit tests -/

/-- One read and then the flags. -/
theorem memRead_setFlags_effect (s : State) (a : Word) (z n h c : Option Bool) :
    let t := setFlags (memRead s a).2 z n h c
    t.f = packFlags (z.getD (flagZ s)) (n.getD (flagN s)) (h.getD (flagH s)) (c.getD (flagC s)) ∧
      sameRegistersBut [] s t ∧ sameFlow s t ∧ tookRead s t a :=
  ⟨setFlags_f_of_sameF (memRead_f s a) z n h c, sameRegistersBut_setFlags (fun q _ => readReg_memRead s a q) z n h c,
    sameFlow_setFlags ⟨memRead_sp s a, memRead_pc s a, (ordinary_memRead s a).control⟩ z n h c, tookRead_of_outside rfl⟩

theorem exec_bitReg (b : Fin 8) (r : Reg8) (s : State) :
    exec (.bitReg b r) s = .next (setBitTestFlags s (readReg s r) b) := by
  fin_cases b <;> cases r <;> rfl

theorem exec_bitHl (b : Fin 8) (s : State) : exec (.bitHl b) s = .next (bitHlByte s b) := by fin_cases b <;> rfl

/-- Settles O22: a test of a register sets flags only, and a test of HL's byte reads it first. -/
theorem bitTestsWriteFlagsOnly : Obligations.BitTestsWriteFlagsOnly := by
  unfold Obligations.BitTestsWriteFlagsOnly
  exact fun s b => ⟨fun r => ⟨_, exec_bitReg b r s, setFlags_effect s _ _ _ _⟩,
    _, exec_bitHl b s, memRead_setFlags_effect s (hlOf s) _ _ _ _⟩

/-! ### One bit cleared or set -/

/-- The bits of the mask `1 << b`. -/
theorem getLsbD_mask (b : Nat) {i : Nat} (hi : i < 8) : (1#8 <<< b).getLsbD i = decide (i = b) := by
  rw [BitVec.getLsbD_shiftLeft, BitVec.getLsbD_one]
  simp only [hi, decide_true, Bool.true_and, ← decide_not, ← Bool.decide_and, decide_eq_decide]
  omega

theorem testBit_clearBit (v : Byte) (b : Nat) {i : Nat} (hi : i < 8) :
    (clearBit v b).toNat.testBit i = if i = b then false else v.toNat.testBit i := by
  rw [BitVec.testBit_toNat, BitVec.testBit_toNat, clearBit, BitVec.getLsbD_and, BitVec.getLsbD_not, getLsbD_mask b hi]
  by_cases h : i = b <;> simp [h, hi]

theorem testBit_setBit (v : Byte) (b : Nat) {i : Nat} (hi : i < 8) :
    (setBit v b).toNat.testBit i = if i = b then true else v.toNat.testBit i := by
  rw [BitVec.testBit_toNat, BitVec.testBit_toNat, setBit, BitVec.getLsbD_or, getLsbD_mask b hi]
  by_cases h : i = b <;> simp [h]

theorem exec_resReg (b : Fin 8) (r : Reg8) (s : State) :
    exec (.resReg b r) s = .next (writeReg s r (clearBit (readReg s r) b)) := by
  fin_cases b <;> cases r <;> rfl

theorem exec_setReg (b : Fin 8) (r : Reg8) (s : State) :
    exec (.setReg b r) s = .next (writeReg s r (setBit (readReg s r) b)) := by
  fin_cases b <;> cases r <;> rfl

theorem exec_resHl (b : Fin 8) (s : State) : exec (.resHl b) s = .next (modifyHl s fun v => clearBit v b).2 := by
  fin_cases b <;> rfl

theorem exec_setHl (b : Fin 8) (s : State) : exec (.setHl b) s = .next (modifyHl s fun v => setBit v b).2 := by
  fin_cases b <;> rfl

/-- A register written and nothing else. -/
theorem writeReg_effect (s : State) (r : Reg8) (v : Byte) :
    let t := writeReg s r v
    readReg t r = v ∧ sameRegistersBut [r] s t ∧ t.f = s.f ∧ sameFlow s t ∧ sameOutside s t :=
  ⟨readReg_writeReg s r v, sameRegistersBut_writeReg s r v, writeReg_f s r v, sameFlow_writeReg s r v,
    sameOutside_of_outside (outside_writeReg s r v)⟩

/-- HL's byte modified and nothing else. -/
theorem modifyHl_effect (s : State) (g : Byte → Byte) :
    let t := (modifyHl s g).2
    sameRegisters s t ∧ sameFlow s t ∧ tookModify s t (hlOf s) (g (busRead s (hlOf s))) := by
  rw [modifyHl_eq]
  obtain ⟨hregs, hf⟩ := sameRegisters_memWrite (memRead s (hlOf s)).2 (hlOf s) (g (busRead s (hlOf s)))
  obtain ⟨kregs, kf⟩ := sameRegisters_afterOperand s .atHl
  exact ⟨⟨fun q => (hregs q).trans (kregs q), hf.trans kf⟩,
    sameFlow_trans (sameFlow_afterOperand s .atHl) (sameFlow_memWrite _ _ _), tookModify_of_outside rfl⟩

/-- Settles O23: the byte written is the byte read with one bit cleared or set. -/
theorem resetAndSetChangeOneBit : Obligations.ResetAndSetChangeOneBit := by
  unfold Obligations.ResetAndSetChangeOneBit
  refine fun s b => ⟨fun r iv hiv => ?_, fun iv hiv => ?_⟩
  · obtain rfl | rfl := List.mem_pair.1 hiv
    · obtain ⟨hread, hframe⟩ := writeReg_effect s r (clearBit (readReg s r) b)
      exact ⟨_, exec_resReg b r s, fun i hi => by rw [hread, testBit_clearBit _ _ hi], hframe⟩
    · obtain ⟨hread, hframe⟩ := writeReg_effect s r (setBit (readReg s r) b)
      exact ⟨_, exec_setReg b r s, fun i hi => by rw [hread, testBit_setBit _ _ hi], hframe⟩
  · obtain rfl | rfl := List.mem_pair.1 hiv
    · exact ⟨_, _, exec_resHl b s, fun _ => testBit_clearBit _ _, modifyHl_effect s _⟩
    · exact ⟨_, _, exec_setHl b s, fun _ => testBit_setBit _ _, modifyHl_effect s _⟩

end Sys2Proof.Machine
end

section
/-! Jumps, calls, returns and restarts (spec/45_control.md R250 to R261): the conditional forms by their condition, and what
a jump, a call and a return leave of the CPU's registers and of the bus. -/

namespace Sys2Proof.Machine

/-! ### The conditional forms and the restarts -/

/-- The model tests a condition on the flags, the statements on the flag byte (R250). -/
theorem condHolds_eq_conditionMet (s : State) (cc : Cond) : condHolds s cc = conditionMet s.f cc := by cases cc <;> rfl

theorem exec_jpCond (cc : Cond) (n : Word) (s : State) :
    exec (.jpCond cc n) s = .next (if conditionMet s.f cc then jumpTo s n else s) := by
  rw [← condHolds_eq_conditionMet]; cases cc <;> rfl

theorem exec_jrCond (cc : Cond) (e : Byte) (s : State) :
    exec (.jrCond cc e) s = .next (if conditionMet s.f cc then jumpTo s (relativeTarget s e) else s) := by
  rw [← condHolds_eq_conditionMet]; cases cc <;> rfl

theorem exec_callCond (cc : Cond) (n : Word) (s : State) :
    exec (.callCond cc n) s = .next (if conditionMet s.f cc then callTo s n else s) := by
  rw [← condHolds_eq_conditionMet]; cases cc <;> rfl

theorem exec_retCond (cc : Cond) (s : State) :
    exec (.retCond cc) s = .next (if conditionMet s.f cc then returnTo (internal s) else internal s) := by
  rw [← condHolds_eq_conditionMet]; cases cc <;> rfl

theorem exec_rst (y : Fin 8) (s : State) : exec (.rst y) s = .next (callTo s (BitVec.ofNat 16 (8 * y))) := by
  fin_cases y <;> rfl

/-! ### A jump -/

theorem outside_setPc (s : State) (a : Word) : outside { s with pc := a } = outside s := rfl

theorem sameRegisters_setPc (s : State) (a : Word) : sameRegisters s { s with pc := a } :=
  ⟨fun r => by cases r <;> rfl, rfl⟩

theorem sameRegisters_trans {s t u : State} (h : sameRegisters s t) (k : sameRegisters t u) : sameRegisters s u :=
  ⟨fun r => (k.1 r).trans (h.1 r), k.2.trans h.2⟩

/-- PC written and one internal cycle (R251, R254). -/
theorem jumpTo_effect (s : State) (a : Word) :
    let t := jumpTo s a
    t.pc = a ∧ sameRegisters s t ∧ t.sp = s.sp ∧ sameControl s t ∧ tookCycles 1 s t :=
  ⟨internal_pc _, sameRegisters_trans (sameRegisters_setPc s a) (sameRegisters_internal _), internal_sp _,
    (ordinary_jumpTo s a).control, tookCycles_of_outside 1 (outside_setPc s a)⟩

/-- Settles O24: every taken jump but JP HL is `jumpTo` its target; the displacement is added as a signed number. -/
theorem jumpsSetPc : Obligations.JumpsSetPc := by
  unfold Obligations.JumpsSetPc
  refine fun s n e => ⟨fun i hi => ?absolute, fun i hi => ?relative, ?jpHl, fun cc hcc => ?notTaken⟩
  case absolute =>
    have hexec : exec i s = .next (jumpTo s n) := by
      obtain rfl | ⟨cc, hcc, rfl⟩ := hi
      · rfl
      · rw [exec_jpCond, if_pos hcc]
    exact ⟨_, hexec, jumpTo_effect s n⟩
  case relative =>
    have hexec : exec i s = .next (jumpTo s (relativeTarget s e)) := by
      obtain rfl | ⟨cc, hcc, rfl⟩ := hi
      · rfl
      · rw [exec_jrCond, if_pos hcc]
    obtain ⟨hpc, hframe⟩ := jumpTo_effect s (relativeTarget s e)
    exact ⟨_, hexec, by rw [hpc, relativeTarget, add_sext16_toNat], hframe⟩
  case jpHl =>
    exact ⟨_, rfl, rfl, sameRegisters_setPc s _, rfl, (ordinary_pc s _).control,
      sameOutside_of_outside (outside_setPc s _)⟩
  case notTaken => rw [exec_jpCond, exec_jrCond, hcc]; exact ⟨rfl, rfl⟩

/-! ### A call -/

/-- A word pushed after an internal cycle stands in the two bytes below SP (R153). -/
theorem storedWord_of_pushCycles {s t : State} {v : Word} (h : outside t = outside (pushCycles (advance 1 s) v)) :
    storedWord s t (s.sp - 1) (s.sp - 2) v := by
  rw [pushCycles, advance_sp] at h
  have hne : s.sp - 1 ≠ s.sp - 2 := by bv_omega
  exact storedWord_of_advance (storedWord_of_highFirst hne h)

/-- One internal cycle, PC pushed, and PC written (R256, R261). -/
theorem callTo_effect (s : State) (a : Word) :
    let t := callTo s a
    t.pc = a ∧ t.sp = s.sp - 2 ∧ sameRegisters s t ∧ sameControl s t ∧
      outside t = outside (pushCycles (advance 1 s) s.pc) ∧ storedWord s t (s.sp - 1) (s.sp - 2) s.pc := by
  have hregs : sameRegisters s (push16 (internal s) s.pc) := by simp [sameRegisters]
  have hout : outside (callTo s a) = outside (pushCycles (advance 1 s) s.pc) :=
    (outside_setPc _ a).trans (push16_outside (internal s) s.pc)
  exact ⟨rfl, by simp [callTo], sameRegisters_trans hregs (sameRegisters_setPc _ a), (ordinary_callTo s a).control, hout,
    storedWord_of_pushCycles hout⟩

/-- Settles O25: a CALL that is taken, and every RST, is `callTo` its target. -/
theorem callsPushReturnAddress : Obligations.CallsPushReturnAddress := by
  unfold Obligations.CallsPushReturnAddress
  refine fun s n => ⟨fun i target hi => ?taken, fun cc hcc => ?notTaken⟩
  case taken =>
    have hexec : exec i s = .next (callTo s target) := by
      obtain ⟨rfl | ⟨cc, hcc, rfl⟩, rfl⟩ | ⟨y, rfl, htarget⟩ := hi
      · rfl
      · rw [exec_callCond, if_pos hcc]
      · rw [exec_rst, ← htarget, BitVec.ofNat_toNat, BitVec.setWidth_eq]
    exact ⟨_, hexec, callTo_effect s target⟩
  case notTaken => rw [exec_callCond, hcc]; rfl

/-! ### A return -/

/-- PC popped and one internal cycle (R258). -/
theorem returnTo_effect (s : State) :
    let t := returnTo s
    t.pc = poppedWord s ∧ t.sp = s.sp + 2 ∧ sameRegisters s t ∧ sameControl s t ∧
      outside t = outside (advance 1 (popCycles s)) ∧ ∀ b, steadyAddr s b = true → busRead t b = busRead s b := by
  have hout : outside (returnTo s) = outside (advance 1 (popCycles s)) := advance_of_outside 1 (pop16_outside s)
  refine ⟨?pc, by simp [returnTo], ?regs, (ordinary_returnTo s).control, hout, fun b hb => ?bus⟩
  case pc => exact (internal_pc _).trans (pop16_value s)
  case regs =>
    have hpop : sameRegisters s (pop16 s).2 := by simp [sameRegisters]
    exact sameRegisters_trans (sameRegisters_trans hpop (sameRegisters_setPc _ _)) (sameRegisters_internal _)
  case bus =>
    have hfirst := steadyAddr_readCycle s s.sp b hb
    rw [busRead_of_outside hout, busRead_advance _ _ _ (steadyAddr_readCycle _ _ _ hfirst), busRead_readCycle _ _ _ hfirst,
      busRead_readCycle _ _ _ hb]

/-- Time does not look at IME, which belongs to the CPU (R26). -/
theorem internal_setIme (s : State) (b : Bool) : internal { s with ime := b } = { internal s with ime := b } := by
  have hset : internal { s with ime := b } = withCpu (internal s) { s with ime := b } :=
    advance_withCpu 1 s { s with ime := b }
  have hkept : internal s = withCpu (internal s) s := advance_withCpu 1 s s
  rw [hset, hkept]; rfl

theorem outside_setIme (s : State) (b : Bool) : outside { s with ime := b } = outside s := rfl

theorem sameRegisters_setIme (s : State) (b : Bool) : sameRegisters s { s with ime := b } :=
  ⟨fun r => by cases r <;> rfl, rfl⟩

/-- RETI is RET with IME set (R260, R371). -/
theorem exec_reti (s : State) : exec .reti s = .next { returnTo s with ime := true } :=
  congrArg Host.Outcome.next (internal_setIme { (pop16 s).2 with pc := (pop16 s).1 } true)

/-- Settles O26: each return is `returnTo`, RETI with IME set after it, a conditional one with an internal cycle before it. -/
theorem returnsPopPc : Obligations.ReturnsPopPc := by
  unfold Obligations.ReturnsPopPc
  refine fun s => ⟨⟨_, rfl, returnTo_effect s⟩, ?reti, fun cc hcc => ?taken, fun cc hcc => ?notTaken⟩
  case reti =>
    obtain ⟨hpc, hsp, hregs, hcontrol, hout, hbus⟩ := returnTo_effect s
    obtain ⟨hhalted, hfatal, -, -, -, hpending⟩ := hcontrol
    exact ⟨_, exec_reti s, hpc, hsp, rfl, hpending, hhalted, hfatal,
      sameRegisters_trans hregs (sameRegisters_setIme _ true), (outside_setIme _ true).trans hout,
      fun b hb => (busRead_of_outside (outside_setIme _ true) b).trans (hbus b hb)⟩
  case taken =>
    obtain ⟨hpc, hsp, hregs, -, hout, hbus⟩ := returnTo_effect (internal s)
    refine ⟨_, by rw [exec_retCond, if_pos hcc], hpc, by rw [hsp, internal_sp],
      sameRegisters_trans (sameRegisters_internal s) hregs, ((ordinary_internal s).trans (ordinary_returnTo _)).control, hout,
      fun b hb => ?_⟩
    rw [hbus b (steadyAddr_advance 1 s b hb)]
    exact busRead_advance 1 s b hb
  case notTaken =>
    exact ⟨_, by rw [exec_retCond, hcc]; rfl, sameRegisters_internal s,
      ⟨internal_sp s, internal_pc s, (ordinary_internal s).control⟩, tookCycles_of_outside 1 rfl⟩

/-! ### A call, then a return -/

/-- What is popped depends on SP and on the machine outside the CPU only. -/
theorem poppedWord_of_outside {s t : State} (h : outside s = outside t) (hsp : s.sp = t.sp) :
    poppedWord s = poppedWord t := by
  rw [poppedWord, hsp, busRead_of_outside (readCycle_of_outside h _), busRead_of_outside h]

/-- Settles O27: PC pushed onto RAM is the word popped, and the other effects of the two cancel or leave things alone. -/
theorem callThenReturnComesBack : Obligations.CallThenReturnComesBack := by
  unfold Obligations.CallThenReturnComesBack
  intro s n hhi hlo
  obtain ⟨-, hspc, hregsc, -⟩ := callTo_effect s n
  obtain ⟨hpc, hsp, hregs, -⟩ := returnTo_effect (callTo s n)
  refine ⟨_, _, rfl, rfl, ?pc, ?sp, sameRegisters_trans hregsc hregs,
    ((ordinary_callTo s n).trans (ordinary_returnTo _)).control⟩
  case pc =>
    have hpushed : (pop16 (push16 (internal s) s.pc)).1 = s.pc :=
      pop16_push16 _ (by rw [internal_sp]; exact storable_advance 1 hhi) (by rw [internal_sp]; exact storable_advance 1 hlo)
    rw [hpc, ← hpushed, pop16_value]
    exact poppedWord_of_outside (outside_setPc _ n) rfl
  case sp => rw [hsp, hspc]; bv_omega

end Sys2Proof.Machine
end

section
/-! The system instructions and what ends a step (spec/46_system.md R270 to R277): the interrupt check and the promotion of
the delayed enable, and the steps that run EI, DI and PREFIX CB (spec/60_exceptions.md R366, R367, R404). -/

namespace Sys2Proof.Machine

/-! ### The system instructions -/

/-- Settles O28: each is one record update. -/
theorem systemInstructionsChangeRunStateOnly : Obligations.SystemInstructionsChangeRunStateOnly := by
  unfold Obligations.SystemInstructionsChangeRunStateOnly
  exact fun s => ⟨rfl, rfl, rfl, rfl⟩

/-- Settles O30: `raiseFatal` writes the run state only, which no bus address reaches. -/
theorem illegalRaisesFatal : Obligations.IllegalRaisesFatal := by
  unfold Obligations.IllegalRaisesFatal
  intro s op
  have hregs : sameRegisters s (raiseFatal s op (s.pc - 1)) := ⟨readReg_raiseFatal s op _, raiseFatal_f s op _⟩
  have hout : outside (raiseFatal s op (s.pc - 1)) = outside s := rfl
  exact ⟨_, rfl, rfl, rfl, hregs, rfl, rfl, rfl, rfl, rfl, sameOutside_of_outside hout⟩

/-! ### PREFIX CB -/

/-- The byte after the opcode, as the bus reads it once the opcode's cycle is over (R24, R101). -/
theorem fetch8_fetch8_value (s : State) : (fetch8 (fetch8 s).2).1 = busRead (readCycle s s.pc) (s.pc + 1) := by
  obtain ⟨hout, -⟩ := tookRead_fetch8 s
  rw [fetch8_value, fetch8_pc, busRead_of_outside hout]

/-- Settles O31: PREFIX CB is one more fetch and the second table's instruction, which is none of the special ones. -/
theorem prefixRunsTheSecondTable : Obligations.PrefixRunsTheSecondTable := by
  unfold Obligations.PrefixRunsTheSecondTable
  refine ⟨fun s => ⟨?meaning, ?completes⟩, fun s hrun hbyte => ?oneStep, rfl, rfl⟩
  case meaning => rw [exec_prefixCb_eq, fetch8_eq]
  case completes =>
    obtain ⟨t, ht, k⟩ := execPrefixCb_ordinary s
    obtain ⟨-, hfatal, -, -, hime, hpending⟩ := k.control
    exact ⟨t, ht, hfatal, hime, hpending⟩
  case oneStep =>
    have hslot : firstEntry (fetch8 s).1 = .cb := by rw [fetch8_value, hbyte]; rfl
    rw [step_of_running hrun, fetchInstr_cb hslot, exec_prefixCb_eq, ← fetch8_fetch8_value]
    rfl

/-! ### The interrupt check -/

/-- A source is a candidate if its bits of IF and IE are both set (R366). -/
theorem getLsbD_pendingMask (s : State) {i : Nat} (hi : i < 5) :
    (pendingMask s).getLsbD i = (s.intf.getLsbD i && s.ie.getLsbD i) := by
  have hlow : (0x1F#8).getLsbD i = true := by interval_cases i <;> rfl
  rw [pendingMask, BitVec.getLsbD_and, BitVec.getLsbD_and, hlow, Bool.and_true]

theorem sourceIndex_lt (k : Source) : sourceIndex k < 5 := by cases k <;> decide

/-- The lowest set bit is the source selected (R366). -/
theorem selectSource_of_lowest {p : Byte} {k : Source} (hset : p.getLsbD (sourceIndex k) = true)
    (hlow : ∀ j, j < sourceIndex k → p.getLsbD j = false) : selectSource p = some k := by
  have hclear (j : Nat) (hj : j < sourceIndex k) : ¬ p.getLsbD j = true := Bool.not_eq_true _ ▸ hlow j hj
  cases k <;> rw [selectSource]
  case vblank => exact if_pos hset
  case stat => rw [if_neg (hclear 0 (by decide))]; exact if_pos hset
  case timer => rw [if_neg (hclear 0 (by decide)), if_neg (hclear 1 (by decide))]; exact if_pos hset
  case serial =>
    rw [if_neg (hclear 0 (by decide)), if_neg (hclear 1 (by decide)), if_neg (hclear 2 (by decide))]
    exact if_pos hset
  case joypad =>
    rw [if_neg (hclear 0 (by decide)), if_neg (hclear 1 (by decide)), if_neg (hclear 2 (by decide)),
      if_neg (hclear 3 (by decide))]
    exact if_pos hset

theorem selectSource_zero : selectSource 0x00#8 = none := rfl

theorem interruptCheck_of_none {s : State} (h : s.ime = false ∨ pendingMask s = 0x00#8) : interruptCheck s = s := by
  unfold interruptCheck
  obtain hime | hmask := h
  · rw [hime]; rfl
  · rw [hmask, selectSource_zero, ite_self]

theorem interruptCheck_of_some {s : State} {k : Source} (hime : s.ime = true)
    (h : selectSource (pendingMask s) = some k) : interruptCheck s = dispatchInterrupt s k := by
  rw [interruptCheck, if_pos hime, h]

/-! ### The end of a step -/

theorem promoteEnable_eq (s : State) : promoteEnable s = { s with ime := s.ime || s.imePending, imePending := false } := by
  unfold promoteEnable
  split
  · next hpending => rw [hpending, Bool.or_true]
  · next hpending =>
    have hclear : s.imePending = false := Bool.eq_false_of_not_eq_true hpending
    rw [hclear, Bool.or_false, ← hclear]

theorem promoteEnable_of_imePending {s : State} (h : s.imePending = false) : promoteEnable s = s := by
  rw [promoteEnable, h]; rfl

/-- Where nothing is dispatched the end of a step is the promotion. -/
theorem endOfStep_of_none {s : State} (h : s.ime = false ∨ pendingMask s = 0x00#8) :
    endOfStep s = { s with ime := s.ime || s.imePending, imePending := false } := by
  rw [endOfStep, interruptCheck_of_none h, promoteEnable_eq]

theorem dispatchInterrupt_imePending (s : State) (k : Source) : (dispatchInterrupt s k).imePending = false :=
  internals_imePending _ _

/-- Settles O35: a dispatch clears the pending enable, so that the promotion after it changes nothing. -/
theorem stepEndsWithOneInterruptCheck : Obligations.StepEndsWithOneInterruptCheck := by
  unfold Obligations.StepEndsWithOneInterruptCheck
  refine ⟨fun t => rfl, fun s => endOfStep_of_none, fun s k hime hintf hie hlow => ?_⟩
  have hselect : selectSource (pendingMask s) = some k := by
    refine selectSource_of_lowest ?_ fun j hj => ?_
    · rw [getLsbD_pendingMask s (sourceIndex_lt k), hintf, hie]; rfl
    · rw [getLsbD_pendingMask s (hj.trans (sourceIndex_lt k)), Bool.and_eq_false_iff]
      exact hlow j hj
  rw [endOfStep, interruptCheck_of_some hime hselect]
  exact promoteEnable_of_imePending (dispatchInterrupt_imePending s k)

/-! ### The steps that run EI and DI -/

theorem finishStep_of_not_fatal {t : State} (h : t.fatal = false) : finishStep (.next t) = .next (endOfStep t) := by
  rw [finishStep, if_neg (Bool.not_eq_true _ ▸ h)]

/-- A step that runs a one-byte instruction that leaves Fatal and IME clear: one fetch, the instruction, and the
promotion. -/
theorem step_of_op {s t : State} {i : Instr} (hrun : running s) (hslot : firstEntry (busRead s s.pc) = .op i)
    (hexec : exec i (fetch8 s).2 = .next t) (hfatal : t.fatal = false) (hime : t.ime = false) :
    step s = .next { t with ime := t.imePending, imePending := false } := by
  rw [← fetch8_value] at hslot
  have hran : exec i (fetchRun 1 s).2 = .next t := hexec
  rw [step_of_running hrun, fetchInstr_op hslot, hran, finishStep_of_not_fatal hfatal, endOfStep_of_none (.inl hime), hime,
    Bool.false_or]

/-- The interrupt enables written after one fetch: the fetch's effect on the rest of the machine (R10, R26). -/
theorem fetch8_setEnables_effect (s : State) (ime pending : Bool) :
    let t := { (fetch8 s).2 with ime := ime, imePending := pending }
    t.pc = s.pc + 1 ∧ t.sp = s.sp ∧ sameRegisters s t ∧ tookRead s t s.pc := by
  obtain ⟨hout, -⟩ := tookRead_fetch8 s
  have hregs : sameRegisters s (fetch8 s).2 := ⟨readReg_fetch8 s, fetch8_f s⟩
  exact ⟨fetch8_pc s, fetch8_sp s, sameRegisters_trans hregs ⟨fun r => by cases r <;> rfl, rfl⟩, tookRead_of_outside hout⟩

/-- Settles O38: with IME clear at the check nothing is dispatched, and only EI leaves an enable to promote. -/
theorem enableIsDelayedDisableIsNot : Obligations.EnableIsDelayedDisableIsNot := by
  unfold Obligations.EnableIsDelayedDisableIsNot
  refine ⟨fun s hrun hime hbyte => ?ei, fun s hrun hbyte => ?di⟩
  case ei =>
    have hslot : firstEntry (busRead s s.pc) = .op .ei := by rw [hbyte]; rfl
    exact ⟨_, step_of_op hrun hslot rfl ((fetch8_fatal s).trans hrun.1) ((fetch8_ime s).trans hime), rfl, rfl,
      fetch8_setEnables_effect s true false⟩
  case di =>
    have hslot : firstEntry (busRead s s.pc) = .op .di := by rw [hbyte]; rfl
    exact ⟨_, step_of_op hrun hslot rfl ((fetch8_fatal s).trans hrun.1) rfl, rfl, rfl,
      fetch8_setEnables_effect s false false⟩

end Sys2Proof.Machine
end

section
/-! The reset state, STOP and `Request` (spec/10_state.md R44, spec/46_system.md R273, spec/60_exceptions.md R364). -/

namespace Sys2Proof.Machine

/-! ### Reset -/

/-- Settles O54: each value stands in the records that `State.reset` is made of; the read of STAT puts its fields together. -/
theorem resetValues : Obligations.ResetValues := by
  unfold Obligations.ResetValues
  exact ⟨rfl, rfl, rfl, rfl, rfl, rfl, rfl, rfl, rfl, rfl, rfl, rfl, rfl, rfl, rfl, rfl, rfl, rfl, rfl, rfl⟩

/-- Settles O55: the default of `RESET` meets what the invariants ask of it, memory lists nothing and Fatal is not raised. -/
theorem resetMeetsTheInvariant : Obligations.ResetMeetsTheInvariant := by
  unfold Obligations.ResetMeetsTheInvariant
  obtain ⟨hflags, hdma, hstat, hpicture⟩ := launchInv_default
  exact ⟨hflags, rfl, hdma, hstat, nofun, hpicture⟩

/-! ### STOP -/

/-- Settles O29: STOP's two cases by `STOP_MODE`, of which the one that completes writes PC only. -/
theorem stopSkipsItsSecondByte : Obligations.StopSkipsItsSecondByte := by
  unfold Obligations.StopSkipsItsSecondByte
  constructor
  · intro s hnop
    rcases execStop_cases s with ⟨-, hexec⟩ | ⟨hrefuse, -⟩
    · exact ⟨_, hexec, BitVec.toNat_add _ _, sameRegisters_setPc s _, rfl, (ordinary_pc s _).control,
        sameOutside_of_outside (outside_setPc s _)⟩
    · cases hnop.symm.trans hrefuse
  · intro s hrefuse
    rcases execStop_cases s with ⟨hnop, -⟩ | ⟨-, hexec⟩
    · cases hnop.symm.trans hrefuse
    · exact hexec

/-! ### Requests -/

theorem getLsbD_sourceMask (k : Source) {i : Nat} (hi : i < 8) :
    (sourceMask k).getLsbD i = decide (i = sourceIndex k) := by
  cases k <;> interval_cases i <;> rfl

theorem request_request (s : State) (k : Source) : request (request s k) k = request s k := by
  rw [request, request, BitVec.or_assoc, BitVec.or_self]

/-- Settles O39: a request is a union with the source's one bit. -/
theorem requestSetsOneBit : Obligations.RequestSetsOneBit := by
  unfold Obligations.RequestSetsOneBit
  refine fun s k => ⟨fun i hi => ?_, ⟨_, rfl⟩, request_request s k⟩
  rw [request_intf, BitVec.getLsbD_or, getLsbD_sourceMask k hi]

end Sys2Proof.Machine
end

section
/-! The host's moves (spec/60_exceptions.md R390, spec/70_reset_and_hazards.md R400, R401): what each leaves of the CPU and of
memory, and that each keeps the invariants. -/

namespace Sys2Proof.Machine

/-! ### A reset -/

theorem sparseRead_filter {β : Type} (d : β) (q : Nat × β → Bool) {a : Nat} (hq : ∀ v, q (a, v) = true)
    (m : List (Nat × β)) : sparseRead d (m.filter q) a = sparseRead d m a := by
  induction m with
  | nil => rfl
  | cons c m ih =>
    obtain ⟨k, v⟩ := c
    by_cases hk : k = a
    · subst hk
      rw [List.filter_cons_of_pos (hq v), sparseRead, if_pos rfl, sparseRead, if_pos rfl]
    · by_cases hc : q (k, v) = true
      · rw [List.filter_cons_of_pos hc, sparseRead, if_neg hk, ih, sparseRead, if_neg hk]
      · rw [List.filter_cons_of_neg hc, ih, sparseRead, if_neg hk]

/-- A reset keeps the cartridge's image (R44). -/
theorem read_cartImage (m : Memory) {a : Nat} (h : a < 0x8000) : (cartImage m).read a = m.read a :=
  sparseRead_filter _ _ (fun _ => decide_eq_true h) m

/-! ### A load -/

/-- Placing bytes changes memory only (R390). -/
theorem placeBytes_frame (vs : List Byte) : ∀ (s : State) (a : Word), ∃ m, placeBytes s a vs = { s with mem := m } := by
  induction vs with
  | nil => exact fun s _ => ⟨s.mem, rfl⟩
  | cons v vs ih => exact fun s a => ih (memStore s a.toNat v) (a + 1)

/-- Bytes placed below the end of the address space stand one after another, and no other byte changes (R390). -/
theorem read_placeBytes (vs : List Byte) : ∀ (s : State) (a : Word), a.toNat + vs.length ≤ 65536 →
    (∀ i, i < a.toNat ∨ a.toNat + vs.length ≤ i → (placeBytes s a vs).mem.read i = s.mem.read i) ∧
      ∀ (k : Nat) (hk : k < vs.length), (placeBytes s a vs).mem.read (a.toNat + k) = vs[k] := by
  induction vs with
  | nil => exact fun s a _ => ⟨fun _ _ => rfl, nofun⟩
  | cons v vs ih =>
    intro s a hend
    rw [List.length_cons] at hend
    have hnext : (a + 1).toNat = (a.toNat + 1) % 65536 := BitVec.toNat_add a 1
    obtain ⟨hother, hown⟩ := ih (memStore s a.toNat v) (a + 1) (by omega)
    refine ⟨fun i hi => ?_, fun k hk => ?_⟩
    · rw [List.length_cons] at hi
      exact (hother i (by omega)).trans (Memory.read_write_ne _ _ (by omega))
    · rw [List.length_cons] at hk
      cases k with
      | zero => exact (hother _ (by omega)).trans (Memory.read_write_self _ _ _)
      | succ k =>
        have hplace : a.toNat + (k + 1) = (a + 1).toNat + k := by omega
        rw [hplace]
        exact hown k (by omega)

/-! ### What every move keeps -/

/-- No move but a reset changes what belongs to the CPU, the host's own stop flag apart (R390). -/
theorem hostMove_cpu (s : State) {m : HostMove} (h : m ≠ .reset) :
    hostMove s m = withCpu (hostMove s m) { s with stopRequested := s.stopRequested || decide (m = .stop) } := by
  cases m
  case reset => exact absurd rfl h
  case stop => simp [hostMove, withCpu]
  case load cart addr bytes =>
    obtain ⟨m, hload⟩ := placeBytes_frame bytes { s with cart := cart } addr
    simp [hostMove, hload, withCpu]
  case debugWrite addr v =>
    obtain ⟨_, _, _, _, _, _, _, _, _, _, _, _, hwrite⟩ := busWrite_frame s addr v
    simp [hostMove, hwrite, withCpu]
  all_goals simp [hostMove, withCpu, request]

theorem hostMove_sameBuild (s : State) (m : HostMove) : sameBuild s (hostMove s m) := by
  cases m
  case load cart addr bytes =>
    obtain ⟨m, hload⟩ := placeBytes_frame bytes { s with cart := cart } addr
    rw [hostMove, hload]
    exact ⟨rfl, rfl⟩
  case debugWrite addr v => exact ⟨busWrite_params s addr v, busWrite_launch s addr v⟩
  all_goals exact ⟨rfl, rfl⟩

theorem machineInv_hostMove {s : State} (m : HostMove) (h : machineInv s) (hl : launchInv s.launch) :
    machineInv (hostMove s m) := by
  cases m
  case reset => exact machineInv_resetMove h hl
  case load cart addr bytes => exact machineInv_placeBytes bytes addr ((machineInv_congr rfl rfl rfl rfl rfl rfl).2 h)
  case debugWrite addr v => exact machineInv_busWrite addr v h
  all_goals exact (machineInv_congr rfl rfl rfl rfl rfl rfl).2 h

/-! ### A frame taken -/

theorem getElem?_frameOf (s : State) {i : Nat} (h : i < 23040) :
    (frameOf s)[i]? = some (framebufferRead s.ppu.framebuffer i) := by
  rw [frameOf, List.getElem?_map, List.getElem?_range h]
  rfl

/-- Settles O57: each move is a few record updates, a bus write or bytes placed one after another; none but a reset reaches
the CPU. -/
theorem hostMovesKeepTheInvariant : Obligations.HostMovesKeepTheInvariant := by
  unfold Obligations.HostMovesKeepTheInvariant
  refine ⟨fun s m => machineInv_hostMove m, hostMove_sameBuild, fun s m hm => ?cpu, fun s => ?reset,
    fun s cart a bytes hend => ?load, fun s v => ?moves, fun s a v => ⟨rfl, rfl⟩⟩
  case cpu =>
    rw [hostMove_cpu s hm]
    exact ⟨⟨fun r => by cases r <;> rfl, rfl⟩, rfl, rfl, rfl, rfl, rfl, rfl, rfl⟩
  case reset =>
    refine ⟨rfl, rfl, rfl, rfl, rfl, rfl, rfl, rfl, rfl, rfl, rfl, rfl, rfl, rfl, rfl, rfl, fun u hu => ?_,
      fun own hown => ?_, rfl, rfl, rfl, fun a => read_cartImage s.mem⟩
    · exact congrArg (resetTimer s.launch) hu
    · exact (congrArg (resetTimer s.launch) hown).trans hown.symm
  case load =>
    obtain ⟨m, hload⟩ := placeBytes_frame bytes { s with cart := cart } a
    obtain ⟨hother, hown⟩ := read_placeBytes bytes { s with cart := cart } a hend
    rw [hload] at hother hown
    refine ⟨m, hload, fun i => ?_⟩
    split
    · next hlow =>
      by_cases hk : i - a.toNat < bytes.length
      · have hplaced := hown _ hk
        rw [Nat.add_sub_cancel' hlow] at hplaced
        rw [List.getD_eq_getElem _ _ hk]
        exact hplaced
      · rw [List.getD_eq_default _ _ (by omega)]
        exact hother i (by omega)
    · exact hother i (by omega)
  case moves =>
    refine ⟨rfl, rfl, ⟨_, rfl, fun w hw => ?_⟩, rfl, ?_, fun x y hx hy => getElem?_frameOf s (by omega), rfl⟩
    · have hjoypad : joypadInput s.joypad v = .snapshot v := congrArg (joypadInput · v) hw
      exact ⟨hjoypad, (busRead_row _ (r := .p1) (by decide)).trans (congrArg joypadRead hjoypad)⟩
    · rw [frameOf, List.length_map, List.length_range]

end Sys2Proof.Machine
end

section
/-! Halted steps, Fatal and dispatch (spec/46_system.md R270, spec/60_exceptions.md R360, R361, R369, R370, R373, R405). -/

namespace Sys2Proof.Machine

/-! ### A halted step -/

theorem step_of_halted {s : State} (hfatal : s.fatal = false) (hhalted : s.halted = true) :
    step s = .next (endOfStep (haltedTick s)) := by
  simp [step, hfatal, hhalted]

/-- A halted cycle looks at IF as the cycle left it, and at IE, which no cycle changes (R373). -/
theorem pendingMask_advance (n : Nat) (s : State) : pendingMask (advance n s) = (advance n s).intf &&& s.ie &&& 0x1F#8 := by
  rw [pendingMask, advance_ie]

theorem haltedTick_of_pending {s : State} (h : pendingMask (advance 1 s) ≠ 0x00#8) :
    haltedTick s = { advance 1 s with halted := false } := if_pos h

theorem haltedTick_of_none {s : State} (h : pendingMask (advance 1 s) = 0x00#8) : haltedTick s = advance 1 s :=
  if_neg (not_not_intro h)

/-- With nothing pending a halted step is one cycle and the promotion: it stays halted. -/
theorem step_of_halted_none {s : State} (hfatal : s.fatal = false) (hhalted : s.halted = true)
    (h : pendingMask (advance 1 s) = 0x00#8) :
    ∃ t, step s = .next t ∧ t.halted = true ∧ t.ie = s.ie ∧ sameRegisters s t ∧ t.sp = s.sp ∧ t.pc = s.pc ∧
      tookCycles 1 s t := by
  have hstep := step_of_halted hfatal hhalted
  rw [haltedTick_of_none h, endOfStep_of_none (.inr h)] at hstep
  have hregs : sameRegisters s (advance 1 s) := ⟨readReg_advance 1 s, advance_f 1 s⟩
  exact ⟨_, hstep, (advance_halted 1 s).trans hhalted, advance_ie 1 s,
    sameRegisters_trans hregs ⟨fun r => by cases r <;> rfl, rfl⟩, advance_sp 1 s, advance_pc 1 s, rfl,
    fun a => busRead_advance 1 s a⟩

/-- Settles O36: the cycle is followed by the wake-up or by nothing, as the mask after the cycle is set or clear. -/
theorem haltedStepTicksAndWakes : Obligations.HaltedStepTicksAndWakes := by
  unfold Obligations.HaltedStepTicksAndWakes
  refine fun s hfatal hhalted => ⟨fun hpending => ?wakes, fun hnone => ?stays, fun hie => ?noEnables⟩
  case wakes =>
    rw [← pendingMask_advance] at hpending
    rw [step_of_halted hfatal hhalted, haltedTick_of_pending hpending]
  case stays =>
    rw [← pendingMask_advance] at hnone
    obtain ⟨t, hstep, hhalt, -, heffect⟩ := step_of_halted_none hfatal hhalted hnone
    exact ⟨t, hstep, hhalt, heffect⟩
  case noEnables =>
    have hnone : pendingMask (advance 1 s) = 0x00#8 := by
      rw [pendingMask_advance, BitVec.and_assoc, hie, BitVec.and_zero]
    obtain ⟨t, hstep, hhalt, hsame, -⟩ := step_of_halted_none hfatal hhalted hnone
    exact ⟨t, hstep, hhalt, hsame⟩

/-! ### Fatal -/

@[simp] theorem advance_ticks (n : Nat) (s : State) : (advance n s).ticks = s.ticks + 4 * n := (advance_ticked n s).ticks

/-- A step that fetches an empty opcode: one cycle, and Fatal with its record (R277, R360). -/
theorem step_of_illegal {s : State} (hrun : running s) (h : busRead s s.pc ∈ illegalOpcodes) :
    step s = .next { readCycle s s.pc with
      pc := s.pc + 1, fatal := true, fatalInfo := some ⟨busRead s s.pc, s.pc, s.ticks + 4⟩ } := by
  have hslot : firstEntry (fetch8 s).1 = .op (.illegal (busRead s s.pc)) := firstEntry_illegal h
  have hback : (fetch8 s).2.pc - 1 = s.pc := by rw [fetch8_pc]; bv_omega
  have hticks : (fetch8 s).2.ticks = s.ticks + 4 := by rw [fetch8_eq]; simp
  have hinfo : (⟨busRead s s.pc, (fetch8 s).2.pc - 1, (fetch8 s).2.ticks⟩ : FatalInfo) =
      ⟨busRead s s.pc, s.pc, s.ticks + 4⟩ := by rw [hback, hticks]
  have hexec : exec (.illegal (busRead s s.pc)) (fetch8 s).2 =
      .next (raiseFatal (fetch8 s).2 (busRead s s.pc) ((fetch8 s).2.pc - 1)) := rfl
  have hfetched : fetchInstr s = (.illegal (busRead s s.pc), (fetch8 s).2) := fetchInstr_op hslot
  rw [step_of_running hrun, hfetched, hexec, raiseFatal, hinfo, fetch8_eq]
  rfl

/-- What is fetched is an ILLEGAL row where the byte at PC is one of the 11 (R111). -/
theorem illegalByte_fetchInstr (s : State) :
    illegalByte (fetchInstr s).1 = if busRead s s.pc ∈ illegalOpcodes then some (busRead s s.pc) else none := by
  have hslot := slotIllegalByte_firstEntry (fetch8 s).1
  have hlegal := firstEntry_operandSlotIsLegal (fetch8 s).1
  rw [fetch8_value] at hslot
  cases he : firstEntry (fetch8 s).1 <;> rw [← fetch8_value, he] at hslot <;> rw [he] at hlegal
  case op i => rw [fetchInstr_op he]; exact hslot
  case n8 k => rw [fetchInstr_n8 he]; exact (hlegal _).trans hslot
  case n16 k => rw [fetchInstr_n16 he]; exact (hlegal _).trans hslot
  case skip i => rw [fetchInstr_skip he]; exact hlegal.trans hslot
  case cb => rw [fetchInstr_cb he]; exact hslot

/-- Only an ILLEGAL row writes the fatal record (R361). -/
theorem exec_fatal {s t : State} {i : Instr} (h : exec i s = .next t) (hi : illegalByte i = none) :
    t.fatal = s.fatal ∧ t.fatalInfo = s.fatalInfo := by
  cases execTo_of_exec h with
  | ordinary k =>
    obtain ⟨-, hfatal, hinfo, -⟩ := k.control
    exact ⟨hfatal, hinfo⟩
  | reti => simp [returnFromInterrupt]
  | halt | di | ei => exact ⟨rfl, rfl⟩
  | illegal op => cases hi

theorem endOfStep_fatal (s : State) : (endOfStep s).fatal = s.fatal ∧ (endOfStep s).fatalInfo = s.fatalInfo := by
  have hcheck : (interruptCheck s).fatal = s.fatal ∧ (interruptCheck s).fatalInfo = s.fatalInfo := by
    unfold interruptCheck
    repeat' split
    · simp [dispatchInterrupt]
    · exact ⟨rfl, rfl⟩
    · exact ⟨rfl, rfl⟩
  rw [endOfStep, promoteEnable_eq]
  exact hcheck

/-- Settles O37: a fetched ILLEGAL row is the only way into Fatal, and no move but a reset writes the flag. -/
theorem fatalOnlyFromEmptyOpcodes : Obligations.FatalOnlyFromEmptyOpcodes := by
  unfold Obligations.FatalOnlyFromEmptyOpcodes
  refine ⟨fun s => step_of_illegal, fun s t hrun hbyte hstep => ?legal, fun s hfatal => ?identity,
    fun s m hfatal hend => ?moves⟩
  case legal =>
    have hlegal := illegalByte_fetchInstr s
    rw [if_neg hbyte] at hlegal
    rw [step_of_running hrun] at hstep
    obtain ⟨-, hkeptFatal, hkeptInfo, -⟩ := (ordinary_fetchInstr s).control
    cases hexec : exec (fetchInstr s).1 (fetchInstr s).2 with
    | fault r => cases r
    | refused r => rw [hexec] at hstep; cases hstep
    | next u =>
      obtain ⟨hfatal, hinfo⟩ := exec_fatal hexec hlegal
      have hclear : u.fatal = false := (hfatal.trans hkeptFatal).trans hrun.1
      rw [hexec, finishStep_of_not_fatal hclear] at hstep
      cases hstep
      obtain ⟨hendFatal, hendInfo⟩ := endOfStep_fatal u
      exact ⟨hendFatal.trans hclear, hendInfo.trans (hinfo.trans hkeptInfo)⟩
  case identity => rw [step, if_pos hfatal]
  case moves =>
    by_contra hm
    rw [hostMove_cpu s hm] at hend
    cases hfatal.symm.trans hend

/-! ### Dispatch -/

theorem sourceVector_toNat (k : Source) : (sourceVector k).toNat = 64 + 8 * sourceIndex k := by cases k <;> rfl

/-- A byte that no tick changes is not IF. -/
theorem busRead_setIntf (s : State) (v : Byte) {b : Word} (h : steadyAddr s b = true) :
    busRead { s with intf := v } b = busRead s b := by
  obtain ⟨hown, hticked⟩ := steadyAddr_iff.1 h
  refine busRead_congr hown ⟨id, fun _ => id, id, fun r h => ⟨r, h⟩⟩ rfl (.inl rfl) (fun _ => rfl) (fun _ => rfl) fun hio => ?_
  unfold tickedByte at hticked
  simp only [hio] at hticked
  cases hreg : ioRegAt b
  case intf => rw [hreg] at hticked; exact absurd hticked (by decide)
  all_goals rfl

theorem busRead_advance_setIntf {s : State} (n : Nat) (v : Byte) {b : Word} (h : steadyAddr s b = true) :
    busRead (advance n { s with intf := v }) b = busRead s b :=
  (busRead_advance n { s with intf := v } b h).trans (busRead_setIntf s v h)

theorem outside_andIntf {s t : State} (h : outside s = outside t) (m : Byte) :
    outside { s with intf := s.intf &&& m } = outside { t with intf := t.intf &&& m } := by
  rw [eq_withCpu_of_outside h]
  rfl

/-- The machine outside the CPU after a dispatch: the lead, the pushes, the source's bit cleared, the tail (R370). -/
theorem dispatchInterrupt_outside (s : State) (k : Source) :
    let u := pushCycles (advance s.params.intLeadTicks s) s.pc
    outside (dispatchInterrupt s k) =
      outside (advance s.params.intTailTicks { u with intf := u.intf &&& ~~~ sourceMask k }) := by
  intro u
  have hpush : outside (push16 (internals s.params.intLeadTicks s) s.pc) = outside u := push16_outside _ _
  have hlead : (internals s.params.intLeadTicks s).pc = s.pc := internals_pc s _
  have hcleared : outside (enterHandler (push16 (internals s.params.intLeadTicks s) s.pc) k) =
      outside { u with intf := u.intf &&& ~~~ sourceMask k } := outside_andIntf hpush _
  rw [← advance_of_outside _ hcleared, dispatchInterrupt, hlead]
  rfl

/-- A word stored stays stored through what leaves every byte that no tick changes. -/
theorem storedWord_of_steady {s u t : State} {hi lo v : Word} (h : storedWord s u hi lo v)
    (hsteady : ∀ b, steadyAddr s b = true → (regionOf b = .oam → 0xFF46#16 ∉ [hi, lo]) → steadyAddr u b = true)
    (hbus : ∀ b, steadyAddr u b = true → busRead t b = busRead u b) : storedWord s t hi lo v := by
  obtain ⟨hrest, hboth⟩ := h
  constructor
  · intro b hb
    have ⟨_, hsteadyb, htrigger⟩ := hb
    rw [hbus b (hsteady b hsteadyb htrigger), hrest b hb]
  · intro hhi hlo
    have htrigger : 0xFF46#16 ∉ [hi, lo] := by
      simp [(storable_ne_trigger hhi).symm, (storable_ne_trigger hlo).symm]
    rw [hbus hi (hsteady hi (steadyAddr_of_storable hhi) fun _ => htrigger),
      hbus lo (hsteady lo (steadyAddr_of_storable hlo) fun _ => htrigger)]
    exact hboth hhi hlo

theorem steadyAddr_pushCycles {s : State} (v : Word) {b : Word} (h : steadyAddr s b = true)
    (ho : regionOf b = .oam → 0xFF46#16 ∉ [s.sp - 1, s.sp - 2]) : steadyAddr (pushCycles s v) b = true := by
  simp only [List.mem_cons, List.not_mem_nil, or_false, not_or] at ho
  exact steadyAddr_writeCycle _ _ _ _ (steadyAddr_writeCycle _ _ _ _ h fun hoam => Ne.symm (ho hoam).1)
    fun hoam => Ne.symm (ho hoam).2

theorem dispatchInterrupt_flow (s : State) (k : Source) :
    let t := dispatchInterrupt s k
    t.sp = s.sp - 2 ∧ t.ime = false ∧ t.imePending = false ∧ t.halted = false ∧ t.fatal = s.fatal ∧
      t.stopRequested = s.stopRequested := by
  simp [dispatchInterrupt, enterHandler]

theorem sameRegisters_dispatchInterrupt (s : State) (k : Source) : sameRegisters s (dispatchInterrupt s k) := by
  have hpush : sameRegisters s (push16 (internals s.params.intLeadTicks s) (internals s.params.intLeadTicks s).pc) := by
    simp [sameRegisters]
  have henter (u : State) : sameRegisters u (enterHandler u k) := ⟨fun r => by cases r <;> rfl, rfl⟩
  have htail (u : State) : sameRegisters u { internals s.params.intTailTicks u with halted := false } :=
    sameRegisters_trans (t := internals s.params.intTailTicks u) ⟨readReg_internals u _, internals_f u _⟩
      ⟨fun r => by cases r <;> rfl, rfl⟩
  exact sameRegisters_trans (sameRegisters_trans hpush (henter _)) (htail _)

/-- Settles O40: the registers field by field, the rest of the machine by `dispatchInterrupt_outside`, and no byte stored
is IF. -/
theorem dispatchPushesPcAndVectors : Obligations.DispatchPushesPcAndVectors := by
  unfold Obligations.DispatchPushesPcAndVectors
  intro s k t u
  have hout : outside t = outside (advance s.params.intTailTicks { u with intf := u.intf &&& ~~~ sourceMask k }) :=
    dispatchInterrupt_outside s k
  have hpc : t.pc = sourceVector k := internals_pc _ _
  have hticks : t.ticks = s.ticks + 4 * (s.params.intLeadTicks + 2 + s.params.intTailTicks) := by
    have hunits : t.ticks = u.ticks + 4 * s.params.intTailTicks :=
      (congrArg State.ticks hout : (outside t).ticks = _).trans (advance_ticks _ _)
    rw [hunits]
    simp [u]
    omega
  have hne : s.sp - 1 ≠ s.sp - 2 := by bv_omega
  have hpushed : storedWord (advance s.params.intLeadTicks s) u (s.sp - 1) (s.sp - 2) s.pc :=
    storedWord_of_highFirst hne (by simp only [u, pushCycles, advance_sp])
  have hstored : storedWord (advance s.params.intLeadTicks s) t (s.sp - 1) (s.sp - 2) s.pc := by
    refine storedWord_of_steady hpushed (fun b hb ho => steadyAddr_pushCycles _ hb (by rwa [advance_sp])) fun b hb => ?_
    exact (busRead_of_outside hout b).trans (busRead_advance_setIntf _ _ hb)
  obtain ⟨hsp, hime, hpending, hhalted, hfatal, hstop⟩ := dispatchInterrupt_flow s k
  exact ⟨by rw [hpc, sourceVector_toNat], hsp, hime, hpending, hhalted, hfatal, hstop, sameRegisters_dispatchInterrupt s k,
    hout, hticks, storedWord_of_advance hstored⟩

end Sys2Proof.Machine
end

section
/-! Time (spec/47_cycle_distributor.md R290 to R293, spec/60_exceptions.md R387): cycles in a row, and what the units that
tick may request. -/

namespace Sys2Proof.Machine

theorem advance_add (m n : Nat) (s : State) : advance (m + n) s = advance n (advance m s) := by
  induction n with
  | zero => rfl
  | succ n ih => rw [← Nat.add_assoc, advance_succ', advance_succ', ih]

/-! ### The sources that tick -/

/-- Requests of VBLANK, STAT and TIMER leave the upper bits of IF (R387). -/
theorem requestMask_upper (ks : List Source) (h : ∀ k ∈ ks, k ∈ [Source.vblank, .stat, .timer]) :
    ∀ v : Byte, requestMask v ks &&& 0xF8#8 = v &&& 0xF8#8 := by
  induction ks with
  | nil => exact fun _ => rfl
  | cons k ks ih =>
    intro v
    obtain ⟨hk, hks⟩ := List.forall_mem_cons.1 h
    have hlow : sourceMask k &&& 0xF8#8 = 0#8 := by
      simp only [List.mem_cons, List.not_mem_nil, or_false] at hk
      rcases hk with rfl | rfl | rfl <;> rfl
    rw [requestMask, ih hks, BitVec.and_or_distrib_right, hlow, BitVec.or_zero]

theorem mem_statIf {b : Bool} {k : Source} (h : k ∈ statIf b) : k = .stat := by
  cases b
  · cases h
  · exact List.mem_singleton.1 h

theorem mem_timerIf {b : Bool} {k : Source} (h : k ∈ timerIf b) : k = .timer := by
  cases b
  · cases h
  · exact List.mem_singleton.1 h

theorem mem_timerRequests {t : Timer} {k : Source} (h : k ∈ timerRequests t) : k = .timer := by
  cases t <;> exact mem_timerIf h

/-- The picture pipeline requests VBLANK and STAT only (R313). -/
theorem mem_ppuRequests {c : Params} {m : Memory} {p : Ppu} {k : Source} (h : k ∈ ppuRequests c m p) :
    k = .vblank ∨ k = .stat := by
  unfold ppuRequests at h
  cases hm : p.mode <;> simp only [hm] at h
  case oamScan => cases h
  case transfer => exact .inr (mem_statIf h)
  case hblank =>
    unfold hblankRequests at h
    split at h
    · rcases List.mem_append.1 h with h | h
      · exact .inr (mem_statIf h)
      · split at h
        · exact (List.mem_cons.1 h).imp_right mem_statIf
        · exact .inr (mem_statIf h)
    · cases h
  case vblank =>
    unfold vblankRequests at h
    split at h
    · rcases List.mem_append.1 h with h | h
      · exact .inr (mem_statIf h)
      · split at h
        · exact .inr (mem_statIf h)
        · cases h
    · cases h

theorem advanceDot_intf_upper (s : State) : (advanceDot s).intf &&& 0xF8#8 = s.intf &&& 0xF8#8 := by
  rw [advanceDot_eq]
  refine requestMask_upper _ (fun k hk => ?_) s.intf
  rcases List.mem_append.1 hk with hk | hk
  · simp [mem_timerRequests hk]
  · rcases mem_ppuRequests hk with rfl | rfl <;> simp

theorem dmaTick_intf (s : State) : (dmaTick s).intf = s.intf := by
  obtain ⟨_, _, _, _, _, h⟩ := dmaTick_frame s
  rw [h]

/-- No unit that ticks requests SERIAL or JOYPAD (R387). -/
theorem advance_intf_upper (n : Nat) (s : State) : (advance n s).intf &&& 0xF8#8 = s.intf &&& 0xF8#8 := by
  induction n with
  | zero => rfl
  | succ n ih => rw [advance_succ', advanceCycle, dmaTick_intf]; simp only [advanceDot_intf_upper, ih]

/-! ### One cycle -/

/-- Settles O41: a cycle is the four dots as one state, of which the DMA unit's tick leaves the timer, the generator and
IF; the frame over several cycles is `advance_ticked`'s. -/
theorem timeTouchesNoCpuState : Obligations.TimeTouchesNoCpuState := by
  unfold Obligations.TimeTouchesNoCpuState
  refine ⟨fun m n s => ?cycles, fun s => ?oneCycle⟩
  case cycles =>
    exact ⟨advance_add m n s, advance_ticks n s, ⟨readReg_advance n s, advance_f n s⟩,
      ⟨advance_sp n s, advance_pc n s, (ordinary_internals n s).control⟩, advance_ie n s, (advance_ticked n s).keeps,
      advance_intf_upper n s⟩
  case oneCycle =>
    intro dot asked
    have hdot : dot = advanceDot := rfl
    obtain ⟨_, _, _, _, _, hdma⟩ := dmaTick_frame (advanceDot^[4] s)
    have hcycle : advance 1 s = _ := (advance_one s).trans hdma
    rw [hdot]
    refine ⟨rfl, rfl, ?_, ?_, ?_, fun hidle => ?_, ?_⟩
    · rw [hcycle, advanceDots_eq]
    · rw [hcycle, advanceDots_eq]
    · rw [advanceDots_eq]
    · have hunit : (advanceDot^[4] s).dma.active = false := by rw [advanceDots_eq]; exact hidle
      rw [advance_one, dmaTick_idle hunit, advanceDots_eq]
    · rw [hcycle, advanceDots_eq]
      exact requestMask_foldl _ _

end Sys2Proof.Machine
end

section
/-! The timer (spec/60_exceptions.md R380, R381): the divider's falling edges, and the reference timer over a run of dots. -/

namespace Sys2Proof.Machine

/-! ### One tick of the reference timer -/

/-- The dots between two steps of TIMA, by TAC's low bits (R381). -/
def timerPeriod (tac : Byte) : Nat := match tac.toNat % 4 with | 0 => 1024 | 1 => 16 | 2 => 64 | _ => 256

/-- The period is twice the weight of the divider's bit that TAC selects (R381). -/
theorem timerPeriod_eq : ∀ tac : Byte, timerPeriod tac = 2 ^ (timerBit tac + 1) := by decide +kernel

theorem timerPeriod_mem (tac : Byte) : timerPeriod tac ∈ [1024, 16, 64, 256] := by
  revert tac; decide +kernel

/-- A bit of a 16-bit counter falls where the counter's new value is a multiple of twice the bit's weight. -/
theorem getLsbD_falls_iff (x : BitVec 16) {b : Nat} (hb : b < 16) :
    (x.getLsbD b && !(x + 1).getLsbD b) = decide ((x.toNat + 1) % 2 ^ (b + 1) = 0) := by
  have hx := x.isLt
  rw [← BitVec.testBit_toNat, ← BitVec.testBit_toNat, BitVec.toNat_add, Bool.eq_iff_iff]
  simp only [Bool.and_eq_true, Bool.not_eq_true', Nat.testBit_eq_decide_div_mod_eq, decide_eq_true_eq, decide_eq_false_iff_not]
  interval_cases b <;> simp <;> omega

theorem refTimerEdge_eq (t : RefTimer) : refTimerEdge t =
    (t.tac.getLsbD 2 && decide ((t.div16.toNat + 1) % timerPeriod t.tac = 0)) := by
  have hb : timerBit t.tac < 16 := by unfold timerBit; split <;> decide
  rw [timerPeriod_eq, ← getLsbD_falls_iff _ hb, refTimerEdge, Bool.and_assoc]

/-! ### A run of ticks -/

theorem refTimerTick_iterate (n : Nat) (t : RefTimer) :
    (refTimerTick^[n] t).div16.toNat = (t.div16.toNat + n) % 65536 ∧ (refTimerTick^[n] t).tac = t.tac := by
  have hdiv := t.div16.isLt
  induction n with
  | zero => exact ⟨by simp; omega, rfl⟩
  | succ n ih =>
    obtain ⟨ihDiv, ihTac⟩ := ih
    rw [Function.iterate_succ_apply']
    refine ⟨?_, ihTac⟩
    have hone : (1 : BitVec 16).toNat = 1 := rfl
    rw [refTimerTick, BitVec.toNat_add, ihDiv, hone]
    omega

/-- TIMA reloads on overflow, and steps on another edge (R381). -/
theorem refTimerTick_tima (t : RefTimer) : (refTimerTick t).tima =
    if refTimerOverflows t then t.tma else if refTimerEdge t then t.tima + 1 else t.tima := by
  by_cases hedge : refTimerEdge t <;> by_cases htima : t.tima = 0xFF#8 <;>
    simp [refTimerTick, refTimerOverflows, hedge, htima]

theorem refTimerTick_tima_of_not_edge {t : RefTimer} (h : refTimerEdge t = false) : (refTimerTick t).tima = t.tima := by
  simp [refTimerTick, h]

theorem refTimerTick_tima_of_edge {t : RefTimer} (h : refTimerEdge t = true) (hne : t.tima ≠ 0xFF#8) :
    (refTimerTick t).tima = t.tima + 1 := by
  simp [refTimerTick, h, hne]

/-- The `n`th dot from a counter value `d` on, counted from zero, ends a period where the residue says so. -/
theorem periodEnds_iff {period d n : Nat} (hp : period ∈ [1024, 16, 64, 256]) (hn : n < period) :
    ((d + n) % 65536 + 1) % period = 0 ↔ d % period + n + 1 = period := by
  simp only [List.mem_cons, List.not_mem_nil, or_false] at hp
  rcases hp with rfl | rfl | rfl | rfl <;> omega

/-- Within a period the enabled timer steps TIMA at the one dot that completes the divider's own period (R381). -/
theorem tima_within_period {t : RefTimer} (hon : t.tac.getLsbD 2 = true) (hne : t.tima ≠ 0xFF#8) {n : Nat}
    (hn : n ≤ timerPeriod t.tac) : (refTimerTick^[n] t).tima =
      if t.div16.toNat % timerPeriod t.tac + n < timerPeriod t.tac then t.tima else t.tima + 1 := by
  have hmem := timerPeriod_mem t.tac
  have hpos : 0 < timerPeriod t.tac := by rw [timerPeriod_eq]; exact Nat.two_pow_pos _
  induction n with
  | zero => rw [Nat.add_zero, if_pos (Nat.mod_lt _ hpos)]; rfl
  | succ n ih =>
    obtain ⟨hdiv, htac⟩ := refTimerTick_iterate n t
    have htima := ih (by omega)
    have hedge : refTimerEdge (refTimerTick^[n] t) =
        decide (t.div16.toNat % timerPeriod t.tac + n + 1 = timerPeriod t.tac) := by
      rw [refTimerEdge_eq, htac, hdiv, hon, Bool.true_and, decide_eq_decide]
      exact periodEnds_iff hmem (by omega)
    rw [Function.iterate_succ_apply']
    by_cases hends : t.div16.toNat % timerPeriod t.tac + n + 1 = timerPeriod t.tac
    · rw [if_pos (by omega)] at htima
      rw [refTimerTick_tima_of_edge (by rw [hedge, decide_eq_true hends]) (by rw [htima]; exact hne), htima, if_neg (by omega)]
    · rw [refTimerTick_tima_of_not_edge (by rw [hedge, decide_eq_false hends]), htima]
      split <;> split <;> first | rfl | omega

theorem tima_of_disabled {t : RefTimer} (hoff : t.tac.getLsbD 2 = false) (n : Nat) :
    (refTimerTick^[n] t).tima = t.tima := by
  induction n with
  | zero => rfl
  | succ n ih =>
    obtain ⟨-, htac⟩ := refTimerTick_iterate n t
    rw [Function.iterate_succ_apply', refTimerTick_tima_of_not_edge, ih]
    rw [refTimerEdge_eq, htac, hoff, Bool.false_and]

theorem refTimerRead_div_after_256 (t : RefTimer) : refTimerRead (refTimerTick^[256] t) .div = refTimerRead t .div + 1 := by
  obtain ⟨hdiv, -⟩ := refTimerTick_iterate 256 t
  apply BitVec.eq_of_toNat_eq
  have hone : (1 : Byte).toNat = 1 := rfl
  simp only [refTimerRead, BitVec.toNat_add, BitVec.extractLsb'_toNat, hdiv, hone, Nat.shiftRight_eq_div_pow]
  omega

/-! ### The tick on the machine -/

/-- A tick of any timer changes that timer and requests TIMER or nothing (R380). -/
theorem tickTimer_effect (s : State) :
    ∃ t i, tickTimer s = { s with timer := t, intf := i } ∧ (i = s.intf ∨ i = s.intf ||| 0x04#8) := by
  refine ⟨_, _, tickTimer_eq s, ?_⟩
  cases s.timer <;> exact requestMask_timerIf _ _

theorem requestMask_timerIf_eq (v : Byte) (b : Bool) :
    requestMask v (timerIf b) = if b = true then v ||| 0x04#8 else v := by
  cases b <;> rfl

/-- Settles O46: the selected bit falls once in each period, and a tick requests TIMER where TIMA overflows. -/
theorem timerCountsAndOverflows : Obligations.TimerCountsAndOverflows := by
  unfold Obligations.TimerCountsAndOverflows
  refine ⟨fun t => ⟨fun hon hne period hperiod => ?period, tima_of_disabled, refTimerRead_div_after_256 t⟩,
    fun s t ht => ?tick, tickTimer_effect⟩
  case period =>
    have hp : period = timerPeriod t.tac := by
      unfold timerPeriod
      simp only [List.mem_cons, Prod.mk.injEq, List.not_mem_nil, or_false] at hperiod
      rcases hperiod with ⟨h, rfl⟩ | ⟨h, rfl⟩ | ⟨h, rfl⟩ | ⟨h, rfl⟩ <;> rw [h] <;> rfl
    rw [hp, tima_within_period hon hne (Nat.le_refl _), if_neg (by omega)]
  case tick =>
    intro edge overflow
    have hedge : refTimerEdge t = edge := refTimerEdge_eq t
    have hoverflow : refTimerOverflows t = overflow := by rw [refTimerOverflows, hedge]
    refine ⟨refTimerTick t, ?_, rfl, rfl, rfl, ?_, ?_⟩
    · rw [tickTimer_eq, ht, timerTick]
    · rw [refTimerTick_tima, hedge, hoverflow]
    · rw [tickTimer_eq, ht, timerRequests, requestMask_timerIf_eq, hoverflow]

end Sys2Proof.Machine
end

section
/-! OAM-DMA (spec/60_exceptions.md R383 to R385, R406): one tick of the unit, the unit over a transfer, and the bytes it
copies. -/

namespace Sys2Proof.Machine

/-! ### One tick of the unit -/

theorem dmaTick_delayed {s : State} (hactive : s.dma.active = true) (hdelay : 0 < s.dma.delay) :
    dmaTick s = { s with dma := { s.dma with delay := s.dma.delay - 1 } } := by
  rw [dmaTick, if_pos hactive, if_pos hdelay]

theorem dmaTick_copies {s : State} (hactive : s.dma.active = true) (hdelay : s.dma.delay = 0)
    (hbyte : s.dma.nextByte < 160) :
    let addr := BitVec.ofNat 16 (256 * s.dma.page.toNat + s.dma.nextByte)
    dmaTick s = { afterRead s addr with
      mem := s.mem.write (0xFE00 + s.dma.nextByte) (busRead s addr)
      dma := { s.dma with nextByte := s.dma.nextByte + 1, active := decide (s.dma.nextByte ≠ 159) } } := by
  intro addr
  have haddr : dmaSource s.dma = addr := congrArg (fun n => BitVec.ofNat 16 (n + s.dma.nextByte)) (Nat.mul_comm _ _)
  have hlast : decide (s.dma.nextByte + 1 < 160) = decide (s.dma.nextByte ≠ 159) := by
    rw [decide_eq_decide]; omega
  rw [dmaTick, if_pos hactive, if_neg (by omega), dmaCopy, oamStore, if_pos hbyte, haddr, hlast, memStore, afterRead_mem]

/-! ### The unit over a transfer -/

section
variable (s : State) (v : Byte)

/-- The machine just after `v` was written to 0xFF46 (R384). -/
def transferStart : State := { s with dmaReg := v, dma := dmaStart v }

theorem busWrite_dmaRegister : busWrite s 0xFF46#16 v = transferStart s v :=
  busWrite_row s v (r := .dma) (by decide)

/-- The machine after `n` cycles of a transfer and the four dots of the next. -/
def transferDots (n : Nat) : State := advanceDot^[4] (advance n (transferStart s v))

theorem advance_transfer_succ (n : Nat) :
    advance (n + 1) (transferStart s v) = dmaTick (transferDots s v n) := advance_succ' n _

/-- Where the unit stands after `n` cycles: two of delay, then a byte in each (R384, R385). -/
def transferUnit (n : Nat) : Dma where
  active := decide (n < 162)
  nextByte := n - 2
  page := v
  delay := 2 - n

theorem advance_transfer_dma {n : Nat} (hn : n ≤ 162) : (advance n (transferStart s v)).dma = transferUnit v n := by
  induction n with
  | zero => rfl
  | succ n ih =>
    have hunit : (transferDots s v n).dma = transferUnit v n := by
      rw [transferDots, advanceDots_eq]
      exact ih (by omega)
    have hactive : (transferDots s v n).dma.active = true := by rw [hunit]; exact decide_eq_true (by omega)
    rw [advance_transfer_succ]
    by_cases hdelay : n < 2
    · rw [dmaTick_delayed hactive (by rw [hunit]; exact Nat.sub_pos_of_lt hdelay), hunit]
      interval_cases n <;> rfl
    · have hnone : (transferDots s v n).dma.delay = 0 := by rw [hunit]; exact Nat.sub_eq_zero_of_le (by omega)
      have hbyte : (transferDots s v n).dma.nextByte < 160 := by rw [hunit]; show n - 2 < 160; omega
      have hlast : decide (n - 2 ≠ 159) = decide (n + 1 < 162) := by rw [decide_eq_decide]; omega
      have hnext : n - 2 + 1 = n + 1 - 2 := by omega
      have hwait : 2 - n = 2 - (n + 1) := by omega
      rw [dmaTick_copies hactive hnone hbyte, hunit]
      simp only [transferUnit, hlast, hnext, hwait]

theorem transferDots_dma {n : Nat} (hn : n < 162) : (transferDots s v n).dma = transferUnit v n := by
  rw [transferDots, advanceDots_eq]
  exact advance_transfer_dma s v (by omega)

/-- Cycle `j + 3` copies byte `j` (R385). -/
theorem advance_transfer_mem {j : Nat} (hj : j < 160) : (advance (j + 3) (transferStart s v)).mem =
    (advance (j + 2) (transferStart s v)).mem.write (0xFE00 + j)
      (busRead (transferDots s v (j + 2)) (BitVec.ofNat 16 (256 * v.toNat + j))) := by
  have hunit := transferDots_dma s v (n := j + 2) (by omega)
  have hactive : (transferDots s v (j + 2)).dma.active = true := by rw [hunit]; exact decide_eq_true (by omega)
  have hmem : (transferDots s v (j + 2)).mem = (advance (j + 2) (transferStart s v)).mem := by
    rw [transferDots, advanceDots_eq]
  rw [advance_transfer_succ, dmaTick_copies hactive (by rw [hunit]; exact Nat.sub_eq_zero_of_le (by omega))
    (by rw [hunit]; exact hj), hmem, hunit]
  rfl

/-- A byte copied stays to the end of the transfer. -/
theorem read_transfer {j n : Nat} (hj : j < 160) (hlow : j + 3 ≤ n) (hhigh : n ≤ 162) :
    (advance n (transferStart s v)).mem.read (0xFE00 + j) =
      busRead (transferDots s v (j + 2)) (BitVec.ofNat 16 (256 * v.toNat + j)) := by
  induction n, hlow using Nat.le_induction with
  | base => rw [advance_transfer_mem s v hj, Memory.read_write_self]
  | succ n hn ih =>
    obtain ⟨i, rfl⟩ : ∃ i, n = i + 2 := ⟨n - 2, by omega⟩
    rw [advance_transfer_mem s v (j := i) (by omega), Memory.read_write_ne _ _ (by omega), ih (by omega)]

theorem advanceDots_ticked (n : Nat) (t : State) : Ticked n t (advanceDot^[n] t) := by
  induction n with
  | zero => exact .refl t
  | succ n ih =>
    rw [Function.iterate_succ_apply']
    exact ih.trans (advanceDot_ticked _)

/-- What the dots before a byte's copy leave of the machine before the transfer. -/
theorem transferDots_ticked (n : Nat) : Ticked (4 * n + 4) (transferStart s v) (transferDots s v n) :=
  (advance_ticked n _).trans (advanceDots_ticked 4 _)

theorem transferDots_params (n : Nat) : (transferDots s v n).params = s.params := by
  rw [transferDots, advanceDots_eq]
  exact advance_params n _

/-- A byte of memory outside OAM is the one that was there before the transfer. -/
theorem busRead_transferDots_ram (n : Nat) {a : Word} (hr : regionOf a ∈ [Region.vram, .wram, .hram]) :
    busRead (transferDots s v n) a = s.mem.read a.toNat := by
  rw [busRead_ram _ hr]
  refine (transferDots_ticked s v n).memOther _ (regionOf_bounds.2 fun hoam => ?_)
  rw [hoam] at hr
  exact absurd hr (by decide)

/-- The read-only image is as it was; its RAM window reads 0xFF (R66). -/
theorem busRead_transferDots_rom32k (n : Nat) {a : Word} (hc : s.cart = .rom32k)
    (hr : regionOf a ∈ [Region.cartRom, .cartRam]) :
    busRead (transferDots s v n) a = if a.toNat < 0x8000 then s.mem.read a.toNat else 0xFF#8 := by
  have hticked := transferDots_ticked s v n
  rw [busRead_cart _ hr, cartRead_rom32k a (hticked.units.cart hc)]
  split
  · exact hticked.memOther _ (by omega)
  · rfl

end

/-- Settles O45: the unit's place in the transfer says which tick copies which byte, and time leaves every source outside
OAM and I/O as it was. -/
theorem dmaCopiesOnePage : Obligations.DmaCopiesOnePage := by
  unfold Obligations.DmaCopiesOnePage
  refine ⟨fun s v => ?transfer, fun s => ⟨dmaTick_idle, dmaTick_delayed, dmaTick_copies⟩⟩
  case transfer =>
    intro start
    have hstart : start = transferStart s v := busWrite_dmaRegister s v
    rw [hstart]
    refine ⟨fun n hn => ?_, ?_, fun j hj => ?bytes, fun n a ha => ?_⟩
    · rw [advance_transfer_dma s v (by omega)]
      exact decide_eq_true hn
    · rw [advance_transfer_dma s v (Nat.le_refl _)]
      rfl
    case bytes =>
      intro byte addr
      have hbyte : byte = busRead (transferDots s v (j + 2)) (BitVec.ofNat 16 addr) :=
        read_transfer s v hj (by omega) (Nat.le_refl _)
      have hpage := v.isLt
      have haddr : (BitVec.ofNat 16 addr).toNat = addr := by
        rw [BitVec.toNat_ofNat]
        exact Nat.mod_eq_of_lt (by omega)
      obtain ⟨cartRom, vram, cartRam, wram, echo, oam, -, -, hram, -⟩ := regionOf_iff (BitVec.ofNat 16 addr)
      have ram := busRead_transferDots_ram s v (j + 2) (a := BitVec.ofNat 16 addr)
      have rom := busRead_transferDots_rom32k s v (j + 2) (a := BitVec.ofNat 16 addr)
      have hparams := transferDots_params s v (j + 2)
      rw [haddr] at cartRom vram cartRam wram echo oam hram ram rom
      refine ⟨hbyte, fun h hc => ?_, fun h h' => ?_, fun h h' hc => ?_, fun h h' => ?_, fun h h' => ?_, fun h h' => ?_,
        fun h => ?_⟩ <;> rw [hbyte]
      · rw [rom hc (by simp [cartRom.2 h]), if_pos h]
      · exact ram (by simp [vram.2 ⟨h, h'⟩])
      · rw [rom hc (by simp [cartRam.2 ⟨h, h'⟩]), if_neg (by omega)]
      · exact ram (by simp [wram.2 ⟨h, h'⟩])
      · rw [busRead_echo _ (echo.2 ⟨h, h'⟩), hparams]
      · rw [busRead_oam _ (oam.2 (by omega)), transferDots_dma s v (by omega), hparams]
        exact if_pos (decide_eq_true (by omega))
      · exact ram (by simp [hram.2 (by omega)])
    · exact (advance_ticked n _).memOther a ha

end Sys2Proof.Machine
end

section
/-! The picture pipeline's tick as one state, mode by mode, with its requests (spec/48_ppu_modes.md R300 to R318). -/

namespace Sys2Proof.Machine

section
variable {c : Params} {m : Memory} {p : Ppu}

/-! ### The handler of each mode -/

theorem ppuTick_of_oamScan (h : p.mode = .oamScan) :
    ppuTick c m p = tickOamScan m (countDot p) ∧ ppuRequests c m p = [] := by
  unfold ppuTick ppuRequests
  rw [h]
  exact ⟨rfl, rfl⟩

theorem ppuTick_of_transfer (h : p.mode = .transfer) :
    ppuTick c m p = tickTransfer c m (countDot p) ∧ ppuRequests c m p = transferRequests c m (countDot p) := by
  unfold ppuTick ppuRequests
  rw [h]
  exact ⟨rfl, rfl⟩

theorem ppuTick_of_hblank (h : p.mode = .hblank) :
    ppuTick c m p = tickHblank (countDot p) ∧ ppuRequests c m p = hblankRequests c (countDot p) := by
  unfold ppuTick ppuRequests
  rw [h]
  exact ⟨rfl, rfl⟩

theorem ppuTick_of_vblank (h : p.mode = .vblank) :
    ppuTick c m p = tickVblank (countDot p) ∧ ppuRequests c m p = vblankRequests c (countDot p) := by
  unfold ppuTick ppuRequests
  rw [h]
  exact ⟨rfl, rfl⟩

/-! ### OAM-scan, pixel-transfer, and the dots that only count -/

/-- A tick of OAM-scan: the scan in the first, pixel-transfer after the 80th (R302, R330). -/
theorem ppuTick_oamScan (h : p.mode = .oamScan) : ppuTick c m p = { p with
    dot := p.dot + 1
    lineSprites := if p.dot = 0 then lineScan m p else p.lineSprites
    mode := if 79 ≤ p.dot then .transfer else .oamScan
    fetcher := if 79 ≤ p.dot then freshFetcher else p.fetcher } := by
  obtain ⟨htick, -⟩ := ppuTick_of_oamScan (c := c) (m := m) h
  have hfirst : (countDot p).dot = 1 ↔ p.dot = 0 := Nat.add_eq_right
  rw [htick, tickOamScan, lineScan_countDot]
  by_cases h0 : p.dot = 0
  · simp [h0, countDot, h]
  · by_cases h79 : 79 ≤ p.dot
    · simp [h0, h79, countDot]
    · simp [h0, h79, countDot, h]

/-- A tick of pixel-transfer: the fetcher on even dots, the push, and H-blank after the 160th pixel (R306). -/
theorem ppuTick_transfer (h : p.mode = .transfer) :
    let q := transferDot c m (countDot p)
    ppuTick c m p =
        (if 160 ≤ q.fetcher.pushedX then { q with mode := .hblank, fetcher := { q.fetcher with fifo := [] } } else q) ∧
      ppuRequests c m p = statIf (decide (160 ≤ q.fetcher.pushedX) && p.statEn.getLsbD 3) := by
  intro q
  obtain ⟨htick, hrequests⟩ := ppuTick_of_transfer (c := c) (m := m) h
  have hen : q.statEn = p.statEn := (transferDot_regs c m (countDot p)).statEn
  rw [htick, hrequests, ← hen]
  exact ⟨rfl, rfl⟩

/-- The dots of H-blank and V-blank before the last (R308, R311). -/
theorem ppuTick_counts (h : p.mode = .hblank ∨ p.mode = .vblank) (hdot : p.dot < 455) :
    ppuTick c m p = { p with dot := p.dot + 1 } ∧ ppuRequests c m p = [] := by
  have hmore : ¬ 456 ≤ (countDot p).dot := fun hlast => by
    have : 456 ≤ p.dot + 1 := hlast
    omega
  rcases h with h | h
  · obtain ⟨htick, hrequests⟩ := ppuTick_of_hblank (c := c) (m := m) h
    rw [htick, hrequests, tickHblank, hblankRequests, if_neg hmore, if_neg hmore]
    exact ⟨rfl, rfl⟩
  · obtain ⟨htick, hrequests⟩ := ppuTick_of_vblank (c := c) (m := m) h
    rw [htick, hrequests, tickVblank, vblankRequests, if_neg hmore, if_neg hmore]
    exact ⟨rfl, rfl⟩

/-! ### The last dot of a line -/

theorem ly_succ_eq (ly : Byte) : ly + 1 = BitVec.ofNat 8 (ly.toNat + 1) := by
  apply BitVec.eq_of_toNat_eq
  simp

/-- The match bit and its request, on naturals (R309). -/
theorem compareLine_eq {line : Nat} (hline : p.ly.toNat = line) :
    compareLine p = { p with lycEq := decide (line = p.lyc.toNat) } ∧
      compareRequests p = statIf (decide (line = p.lyc.toNat) && p.statEn.getLsbD 6) := by
  have hmatch : decide (p.ly = p.lyc) = decide (line = p.lyc.toNat) := by
    rw [decide_eq_decide, ← hline, BitVec.toNat_inj]
  rw [compareLine, compareRequests, hmatch]
  exact ⟨rfl, rfl⟩

theorem windowLineShown_eq : windowLineShown p = (p.lcdc.getLsbD 5 &&
    decide (p.wx.toNat ≤ 166 ∧ p.wy.toNat < 144 ∧ p.wy.toNat ≤ p.ly.toNat ∧ p.ly.toNat < p.wy.toNat + 144)) := by
  simp only [windowLineShown, windowVisible, winOn, Bool.decide_and, Bool.and_assoc]

/-- The line increment of H-blank's end (R309). -/
theorem incrementLine_eq (hly : p.ly.toNat ≤ 143) :
    let line := p.ly.toNat + 1
    incrementLine p = { p with
        ly := BitVec.ofNat 8 line
        lycEq := decide (line = p.lyc.toNat)
        windowLine := if windowLineShown p then p.windowLine + 1 else p.windowLine } ∧
      compareRequests (incrementLine p) = statIf (decide (line = p.lyc.toNat) && p.statEn.getLsbD 6) := by
  intro line
  have hline : (BitVec.ofNat 8 line).toNat = line := by
    rw [BitVec.toNat_ofNat]
    exact Nat.mod_eq_of_lt (by omega)
  rw [incrementLine, ly_succ_eq]
  obtain ⟨hcompare, -⟩ := compareLine_eq (p := { p with
    windowLine := if windowLineShown p then p.windowLine + 1 else p.windowLine, ly := BitVec.ofNat 8 line }) hline
  rw [hcompare]
  exact ⟨rfl, (compareLine_eq hline).2⟩

/-- The last dot of a visible line (R308, R309, R312, R317). -/
theorem ppuTick_hblankEnd (h : p.mode = .hblank) (hdot : 455 ≤ p.dot) (hly : p.ly.toNat ≤ 143) :
    let line := p.ly.toNat + 1
    let isMatch := decide (line = p.lyc.toNat)
    ppuTick c m p = { p with
        ly := BitVec.ofNat 8 line
        dot := 0
        lycEq := isMatch
        windowLine := if windowLineShown p then p.windowLine + 1 else p.windowLine
        mode := if line = 144 then .vblank else .oamScan
        frame := if line = 144 then p.frame + 1 else p.frame
        frameReady := decide (line = 144) || p.frameReady } ∧
      ppuRequests c m p = statIf (isMatch && p.statEn.getLsbD 6) ++
        (if line = 144 then .vblank :: statIf (p.statEn.getLsbD 4)
         else statIf (c.statOamIrq && p.statEn.getLsbD 5)) := by
  intro line isMatch
  obtain ⟨htick, hrequests⟩ := ppuTick_of_hblank (c := c) (m := m) h
  have hlast : 456 ≤ (countDot p).dot := Nat.succ_le_succ hdot
  obtain ⟨hline, hcompare⟩ := incrementLine_eq (p := countDot p) hly
  have hly' : (BitVec.ofNat 8 line).toNat = line := by
    rw [BitVec.toNat_ofNat]
    exact Nat.mod_eq_of_lt (by omega)
  have hvblank : 144 ≤ (incrementLine (countDot p)).ly.toNat ↔ line = 144 := by
    rw [hline]
    show 144 ≤ (BitVec.ofNat 8 line).toNat ↔ _
    rw [hly']
    omega
  rw [htick, hrequests, tickHblank, hblankRequests, if_pos hlast, if_pos hlast]
  simp only [hvblank, hcompare]
  rw [hline]
  by_cases h144 : line = 144
  · simp only [if_pos h144, decide_eq_true h144, Bool.true_or]
    exact ⟨rfl, rfl⟩
  · simp only [if_neg h144, decide_eq_false h144, Bool.false_or]
    exact ⟨rfl, rfl⟩

/-- The last dot of a line of V-blank (R311, R312). -/
theorem ppuTick_vblankEnd (h : p.mode = .vblank) (hdot : 455 ≤ p.dot) :
    let line := if 153 ≤ p.ly.toNat then 0 else p.ly.toNat + 1
    let isMatch := decide (line = p.lyc.toNat)
    ppuTick c m p = { p with
        ly := BitVec.ofNat 8 line
        dot := 0
        lycEq := isMatch
        windowLine := if line = 0 then 0 else p.windowLine
        mode := if line = 0 then .oamScan else .vblank } ∧
      ppuRequests c m p = statIf (isMatch && p.statEn.getLsbD 6) ++
        (if line = 0 then statIf (c.statOamIrq && p.statEn.getLsbD 5) else []) := by
  obtain ⟨htick, hrequests⟩ := ppuTick_of_vblank (c := c) (m := m) h
  have hlast : 456 ≤ (countDot p).dot := Nat.succ_le_succ hdot
  rw [htick, hrequests, tickVblank, vblankRequests, if_pos hlast, if_pos hlast]
  by_cases hwrap : 153 ≤ p.ly.toNat
  · have hend : 154 ≤ (countDot p).ly.toNat + 1 := Nat.succ_le_succ hwrap
    have hline : (vblankLine (countDot p)).ly.toNat = 0 := by rw [vblankLine, if_pos hend]; rfl
    obtain ⟨hcompare, hasked⟩ := compareLine_eq hline
    rw [hcompare, hasked, if_pos hend, if_pos hwrap, vblankLine, if_pos hend]
    exact ⟨rfl, rfl⟩
  · have hmore : ¬ 154 ≤ (countDot p).ly.toNat + 1 := fun hend => hwrap (Nat.le_of_succ_le_succ hend)
    have hline : (vblankLine (countDot p)).ly.toNat = p.ly.toNat + 1 := by
      rw [vblankLine, if_neg hmore]
      exact (BitVec.toNat_add _ _).trans (Nat.mod_eq_of_lt (Nat.succ_lt_succ (by omega)))
    obtain ⟨hcompare, hasked⟩ := compareLine_eq hline
    rw [hcompare, hasked, if_neg hmore, if_neg hwrap, vblankLine, if_neg hmore]
    simp [countDot, ← ly_succ_eq, h]

/-! ### Requests -/

theorem requestMask_statIf (v : Byte) (b : Bool) : requestMask v (statIf b) = if b then v ||| 0x02#8 else v := by
  cases b <;> rfl

/-- Two reasons for STAT are one request of it (R364). -/
theorem requestMask_stat_stat (v : Byte) (a b : Bool) :
    requestMask v (statIf a ++ statIf b) = v ||| if a || b then 0x02#8 else 0x00#8 := by
  cases a <;> cases b <;> simp [statIf, requestMask, sourceMask, sourceIndex, BitVec.or_assoc]

theorem requestMask_stat_vblank_stat (v : Byte) (a b : Bool) :
    requestMask v (statIf a ++ .vblank :: statIf b) = v ||| 0x01#8 ||| if a || b then 0x02#8 else 0x00#8 := by
  cases a <;> cases b <;> simp [statIf, requestMask, sourceMask, sourceIndex, BitVec.or_assoc]

/-- The requests of a visible line's end (R308, R312). -/
theorem requestMask_hblankEnd (v : Byte) (eqn vbl oam : Bool) (last : Prop) [Decidable last] :
    requestMask v (statIf eqn ++ if last then .vblank :: statIf vbl else statIf oam) =
      v ||| (if last then 0x01#8 else 0x00#8) ||| if eqn || (if last then vbl else oam) then 0x02#8 else 0x00#8 := by
  by_cases hlast : last
  · simp only [if_pos hlast, requestMask_stat_vblank_stat]
  · simp only [if_neg hlast, requestMask_stat_stat, BitVec.or_zero]

/-- The requests of the end of a line of V-blank (R311, R312). -/
theorem requestMask_vblankEnd (v : Byte) (eqn oam : Bool) (wrap : Prop) [Decidable wrap] :
    requestMask v (statIf eqn ++ if wrap then statIf oam else []) =
      v ||| if eqn || (decide wrap && oam) then 0x02#8 else 0x00#8 := by
  by_cases hwrap : wrap
  · simp only [if_pos hwrap, decide_eq_true hwrap, Bool.true_and, requestMask_stat_stat]
  · simp only [if_neg hwrap, decide_eq_false hwrap, Bool.false_and]
    exact requestMask_stat_stat v eqn false

end

/-- Settles O51: each mode's tick as one state, with IF as its requests leave it. -/
theorem lineEndStepsLyAndRequests : Obligations.LineEndStepsLyAndRequests := by
  unfold Obligations.LineEndStepsLyAndRequests
  intro s p next oam shown
  refine ⟨fun h => ?scan, fun h => ?transfer, fun h hdot => ?counts, fun h hdot hly => ?hblankEnd, fun h hdot => ?vblankEnd⟩
  case scan =>
    rw [tickPpu_eq, ppuTick_oamScan h, (ppuTick_of_oamScan h).2]
    rfl
  case transfer =>
    intro q
    obtain ⟨htick, hasked⟩ := ppuTick_transfer (c := s.params) (m := s.mem) h
    have hq : transferDot s.params s.mem (countDot p) = q := rfl
    rw [tickPpu_eq, htick, hasked, hq, requestMask_statIf]
    by_cases hend : 160 ≤ q.fetcher.pushedX
    · simp only [if_pos hend, decide_eq_true hend, Bool.true_and]
    · simp only [if_neg hend, decide_eq_false hend, Bool.false_and]
      rfl
  case counts =>
    obtain ⟨htick, hasked⟩ := ppuTick_counts (c := s.params) (m := s.mem) h hdot
    rw [tickPpu_eq, htick, hasked]
    rfl
  case hblankEnd =>
    intro line isMatch
    obtain ⟨htick, hasked⟩ := ppuTick_hblankEnd (c := s.params) (m := s.mem) h hdot hly
    rw [tickPpu_eq, htick, hasked, requestMask_hblankEnd, windowLineShown_eq]
  case vblankEnd =>
    intro line isMatch
    obtain ⟨htick, hasked⟩ := ppuTick_vblankEnd (c := s.params) (m := s.mem) h hdot
    rw [tickPpu_eq, htick, hasked, requestMask_vblankEnd]

end Sys2Proof.Machine
end

section
/-! The object scan (spec/48_ppu_modes.md R302 to R304), the fetcher's start and end (R330), and the pixel push (R344). -/

namespace Sys2Proof.Machine

/-! ### The object scan -/

theorem insertSprite_perm (e : Sprite) (l : List Sprite) : (insertSprite e l).Perm (e :: l) := by
  induction l with
  | nil => exact .refl _
  | cons x xs ih =>
    rw [insertSprite]
    split
    · exact .refl _
    · exact (ih.cons x).trans (.swap e x xs)

/-- Insertion before the first greater X keeps the list ascending (R303). -/
theorem insertSprite_ascending (e : Sprite) {l : List Sprite} (h : l.Pairwise fun a b => a.x.toNat ≤ b.x.toNat) :
    (insertSprite e l).Pairwise fun a b => a.x.toNat ≤ b.x.toNat := by
  induction l with
  | nil => exact List.pairwise_singleton _ e
  | cons x xs ih =>
    obtain ⟨hx, hxs⟩ := List.pairwise_cons.1 h
    rw [insertSprite]
    split
    · next hlt =>
      refine List.pairwise_cons.2 ⟨fun a ha => ?_, h⟩
      rcases List.mem_cons.1 ha with rfl | ha
      · exact hlt.le
      · exact hlt.le.trans (hx a ha)
    · next hge =>
      refine List.pairwise_cons.2 ⟨fun a ha => ?_, ih hxs⟩
      rcases List.mem_cons.1 ((insertSprite_perm e xs).mem_iff.1 ha) with rfl | ha
      · exact not_lt.1 hge
      · exact hx a ha

theorem coversLine_iff (p : Ppu) (e : Sprite) : coversLine p e = true ↔
    e.y.toNat ≤ p.ly.toNat + 16 ∧ p.ly.toNat + 16 < e.y.toNat + objHeight p := by
  simp [coversLine]

/-- What is kept after the first `n` slots (R303). -/
structure ScanKept (m : Memory) (p : Ppu) (n : Nat) (kept : List Sprite) : Prop where
  ascending : kept.Pairwise fun a b => a.x.toNat ≤ b.x.toNat
  covering : ∀ e ∈ kept, (∃ i, i < n ∧ e = oamEntry m i) ∧ coversLine p e = true
  complete : kept.length < 10 → ∀ i, i < n → coversLine p (oamEntry m i) = true → oamEntry m i ∈ kept

theorem ScanKept.scanSlot {m : Memory} {p : Ppu} {n : Nat} {kept : List Sprite} (h : ScanKept m p n kept) :
    ScanKept m p (n + 1) (scanSlot m p kept n) := by
  have hold : ∀ e ∈ kept, (∃ i, i < n + 1 ∧ e = oamEntry m i) ∧ coversLine p e = true := fun e he => by
    obtain ⟨⟨i, hi, he⟩, hcovers⟩ := h.covering e he
    exact ⟨⟨i, by omega, he⟩, hcovers⟩
  unfold Machine.scanSlot
  split
  · exact ⟨h.ascending, hold, fun hlt => by omega⟩
  · split
    · next hroom hcovers =>
      have hmem : ∀ e, e ∈ insertSprite (oamEntry m n) kept ↔ e = oamEntry m n ∨ e ∈ kept := fun e =>
        (insertSprite_perm _ _).mem_iff.trans List.mem_cons
      refine ⟨insertSprite_ascending _ h.ascending, fun e he => ?_, fun _ i hi hci => ?_⟩
      · rcases (hmem e).1 he with rfl | he
        · exact ⟨⟨n, by omega, rfl⟩, hcovers⟩
        · exact hold e he
      · rcases Nat.lt_succ_iff_lt_or_eq.1 hi with hi | rfl
        · exact (hmem _).2 (.inr (h.complete (by omega) i hi hci))
        · exact (hmem _).2 (.inl rfl)
    · next hmiss =>
      refine ⟨h.ascending, hold, fun hlt i hi hci => ?_⟩
      rcases Nat.lt_succ_iff_lt_or_eq.1 hi with hi | rfl
      · exact h.complete hlt i hi hci
      · exact absurd hci hmiss

theorem lineScan_kept (m : Memory) (p : Ppu) : ScanKept m p 40 (lineScan m p) := by
  have hslots : ∀ n, ScanKept m p n ((List.range n).foldl (Machine.scanSlot m p) []) := fun n => by
    induction n with
    | zero => exact ⟨.nil, nofun, fun _ _ hi => absurd hi (Nat.not_lt_zero _)⟩
    | succ n ih => rw [List.range_succ, List.foldl_append]; exact ih.scanSlot
  exact hslots 40

/-- Only the first tick of OAM-scan changes the line's list of sprites (R302, R315). -/
theorem ppuTick_lineSprites (c : Params) (m : Memory) (p : Ppu) : (ppuTick c m p).lineSprites =
    if p.mode = .oamScan ∧ p.dot = 0 then lineScan m p else p.lineSprites := by
  cases hm : p.mode
  case oamScan =>
    rw [ppuTick_oamScan hm]
    simp only [true_and]
  case transfer =>
    have hline : (transferDot c m (countDot p)).lineSprites = p.lineSprites :=
      (transferDot_line c m (countDot p)).lineSprites
    rw [if_neg (fun h => nomatch h.1), (ppuTick_transfer hm).1, ← hline]
    split <;> rfl
  case hblank =>
    rw [if_neg (fun h => nomatch h.1), (ppuTick_of_hblank hm).1, tickHblank]
    split
    · simp only
      split <;> rfl
    · rfl
  case vblank =>
    rw [if_neg (fun h => nomatch h.1), (ppuTick_of_vblank hm).1, tickVblank, vblankLine]
    split
    · split <;> rfl
    · rfl

/-- Settles O47: the slots are taken in order, each keeping what `ScanKept` says of the list, and only the first tick of
OAM-scan writes the line's list. -/
theorem scanKeepsTenSortedSprites : Obligations.ScanKeepsTenSortedSprites := by
  unfold Obligations.ScanKeepsTenSortedSprites
  refine ⟨fun m p => ?_, fun s => ppuTick_lineSprites s.params s.mem s.ppu⟩
  obtain ⟨hascending, hcovering, hcomplete⟩ := lineScan_kept m p
  refine ⟨lineScan_length m p, hascending, fun e he => ?_, fun hlt i hi hlow hhigh => ?_⟩
  · obtain ⟨hentry, hcovers⟩ := hcovering e he
    exact ⟨hentry, (coversLine_iff p e).1 hcovers⟩
  · exact hcomplete hlt i hi ((coversLine_iff p _).2 ⟨hlow, hhigh⟩)

/-! ### The fetcher's start and end -/

/-- Settles O48: only the 80th tick of OAM-scan enters pixel-transfer, and only that of the 160th pixel leaves it. -/
theorem fetcherIsFreshEachTransfer : Obligations.FetcherIsFreshEachTransfer := by
  unfold Obligations.FetcherIsFreshEachTransfer
  refine ⟨fun c m p hm hnext => ?_, fun c m p hm hnext => ?_⟩
  · rw [ppuTick_oamScan hm] at hnext ⊢
    by_cases hlast : 79 ≤ p.dot
    · simp only [if_pos hlast]
      exact ⟨rfl, rfl, rfl, rfl, rfl, rfl, rfl, rfl, rfl, rfl, rfl⟩
    · simp [if_neg hlast] at hnext
  · obtain ⟨htick, -⟩ := ppuTick_transfer (c := c) (m := m) hm
    rw [htick] at hnext ⊢
    split at hnext
    · next hend => rw [if_pos hend]
    · exact absurd ((transferDot_line c m (countDot p)).mode.trans hm) hnext

/-! ### The pixel push -/

/-- More than eight colours wait: the oldest is shown or dropped (R344). -/
theorem pushPixel_of_cons {p : Ppu} {c : Colour} {rest : List Colour} (h : p.fetcher.fifo = c :: rest)
    (hlen : 8 ≤ rest.length) : pushPixel p = showPixel c rest p := by
  have hmore : 8 < (c :: rest).length := Nat.lt_succ_of_le hlen
  unfold pushPixel
  rw [h]
  exact if_pos hmore

theorem pushPixel_of_short {p : Ppu} (h : p.fetcher.fifo.length ≤ 8) : pushPixel p = p := by
  unfold pushPixel
  split
  · exact if_neg (not_lt.2 h)
  · rfl

theorem showPixel_shown {p : Ppu} {c : Colour} {rest : List Colour} (h : scrollFine p ≤ p.fetcher.lineX) :
    showPixel c rest p = { p with
      framebuffer := framebufferWrite p.framebuffer (p.fetcher.pushedX + 160 * p.ly.toNat) c
      fetcher :=
        { p.fetcher with fifo := rest, pushedX := p.fetcher.pushedX + 1, lineX := p.fetcher.lineX + 1 } } := if_pos h

theorem showPixel_dropped {p : Ppu} {c : Colour} {rest : List Colour} (h : p.fetcher.lineX < scrollFine p) :
    showPixel c rest p = { p with fetcher := { p.fetcher with fifo := rest, lineX := p.fetcher.lineX + 1 } } :=
  if_neg (not_le.2 h)

/-- Settles O50: the pop by the FIFO's length, the write or the drop by the line's column. -/
theorem pushPixelPopsTheOldest : Obligations.PushPixelPopsTheOldest := by
  unfold Obligations.PushPixelPopsTheOldest
  refine ⟨fun p c rest hfifo hlen => ?_, fun p => pushPixel_of_short⟩
  rw [pushPixel_of_cons hfifo hlen]
  rcases le_or_gt (scrollFine p) p.fetcher.lineX with hcol | hcol
  · rw [showPixel_shown hcol]
    exact ⟨rfl, rfl, fun _ => ⟨rfl, framebufferRead_write_self _ _ _, fun i => framebufferRead_write_ne _ _⟩,
      fun hdrop => absurd hcol (not_le.2 hdrop)⟩
  · rw [showPixel_dropped hcol]
    exact ⟨rfl, rfl, fun hshow => absurd hshow (not_le.2 hcol), fun _ => ⟨rfl, rfl⟩⟩

end Sys2Proof.Machine
end

section
/-! The pixel fetcher (spec/49_ppu_fetcher.md R333 to R346): where its reads of VRAM fall, the row of a sprite, and the
eight colours of a push. -/

namespace Sys2Proof.Machine

/-! ### Reads of VRAM -/

theorem vramRead_eq (m : Memory) {a : Nat} (hlow : 0x8000 ≤ a) (hhigh : a < 0xA000) : vramRead m a = m.read a := by
  have hinside : 0x8000 + (a - 0x8000) % 0x2000 = a := by omega
  rw [vramRead, hinside]

section
variable (p : Ppu)

/-- Both maps of tile numbers lie in VRAM (R334). -/
theorem vramRead_bgMapAddr (m : Memory) : vramRead m (bgMapAddr p) = m.read (bgMapAddr p) := by
  have hx : mapX p < 256 := Nat.mod_lt _ (by omega)
  have hy : mapY p < 256 := Nat.mod_lt _ (by omega)
  refine vramRead_eq m ?_ ?_ <;> unfold bgMapAddr bgMapBase <;> split <;> omega

/-- The window's part of a map lies in VRAM (R335). -/
theorem vramRead_winMapAddr (m : Memory) (hx : p.fetcher.fetchX ≤ 176) (hline : p.windowLine ≤ 143) :
    vramRead m (winMapAddr p) = m.read (winMapAddr p) := by
  refine vramRead_eq m ?_ ?_ <;> unfold winMapAddr winMapBase <;> split <;> omega

theorem windowHere_eq : windowHere p = (p.lcdc.getLsbD 5 && decide (p.wx.toNat ≤ 166 ∧ p.wy.toNat < 144 ∧
    p.wx.toNat ≤ p.fetcher.fetchX + 7 ∧ p.wy.toNat ≤ p.ly.toNat)) := by
  simp only [windowHere, windowVisible, winOn, Bool.decide_and, Bool.and_assoc]

theorem tileRow_le : tileRow p ≤ 14 := by
  unfold tileRow
  split <;> omega

theorem tileRowAddr_eq : tileRowAddr p =
    let row := if p.fetcher.bgIsWindow then p.windowLine % 8 * 2 else (p.ly.toNat + p.scy.toNat) % 8 * 2
    if p.lcdc.getLsbD 4 then 0x8000 + 16 * p.fetcher.bgTile.toNat + row
      else 0x8800 + 16 * ((p.fetcher.bgTile.toNat + 128) % 256) + row := by
  rw [tileRowAddr, Nat.mul_comm 16, Nat.mul_comm 16]
  rfl

/-- The two bytes of a tile's row lie in VRAM (R337). -/
theorem vramRead_tileRowAddr (m : Memory) {k : Nat} (hk : k ≤ 1) :
    vramRead m (tileRowAddr p + k) = m.read (tileRowAddr p + k) := by
  have htile := p.fetcher.bgTile.isLt
  have hrow := tileRow_le p
  refine vramRead_eq m ?_ ?_ <;> unfold tileRowAddr <;> split <;> omega

/-! ### The row of a sprite -/

theorem toNat_and_FE (v : Byte) : (v &&& 0xFE#8).toNat = v.toNat / 2 * 2 := by
  revert v; decide +kernel

/-- The address of the row of a sprite that covers the line, on naturals (R339). -/
def spriteAt (p : Ppu) (e : Sprite) : Nat :=
  let tile := if p.lcdc.getLsbD 2 then e.tile.toNat / 2 * 2 else e.tile.toNat
  let row := p.ly.toNat + 16 - e.y.toNat
  0x8000 + 16 * tile + 2 * (if e.attr.getLsbD 6 then objHeight p - 1 - row else row)

theorem spriteAt_lt {e : Sprite} (h : coversLine p e = true) : 0x8000 ≤ spriteAt p e ∧ spriteAt p e + 1 < 0xA000 := by
  have htile := e.tile.isLt
  obtain ⟨hlow, hhigh⟩ := (coversLine_iff p e).1 h
  by_cases hsize : p.lcdc.getLsbD 2 = true <;> by_cases hflip : e.attr.getLsbD 6 = true <;>
    simp only [objHeight, hsize, Bool.false_eq_true, if_true, if_false] at hhigh <;>
    simp only [spriteAt, objHeight, hsize, hflip, Bool.false_eq_true, if_true, if_false] <;> omega

/-- Where a sprite covers the line its row is one of its own, and R339 reduces nothing. -/
theorem spriteRowAddr_eq {e : Sprite} (h : coversLine p e = true) : spriteRowAddr p e = spriteAt p e := by
  have htile := e.tile.isLt
  have hmod (x : Int) : x.emod 0x2000 = x % 0x2000 := rfl
  have hsmall : ¬ 8 = 16 := by decide
  obtain ⟨hlow, hhigh⟩ := (coversLine_iff p e).1 h
  by_cases hsize : p.lcdc.getLsbD 2 = true <;> by_cases hflip : e.attr.getLsbD 6 = true <;>
    simp only [objHeight, hsize, Bool.false_eq_true, if_true, if_false] at hhigh <;>
    simp only [spriteRowAddr, spriteRow, yFlip, spriteAt, objHeight, hsize, hflip, toNat_and_FE, hmod, hsmall, Bool.false_eq_true,
      if_true, if_false] <;> omega

theorem vramRead_spriteRowAddr (m : Memory) {e : Sprite} {k : Nat} (hk : k ≤ 1) (h : coversLine p e = true) :
    vramRead m (spriteRowAddr p e + k) = m.read (spriteAt p e + k) := by
  obtain ⟨hlow, hhigh⟩ := spriteAt_lt p h
  rw [spriteRowAddr_eq p h, vramRead_eq m (by omega) (by omega)]

end

/-! ### The colours of a push -/

theorem shade_eq (c : Params) (i : BitVec 2) :
    shade c i = [c.shade0, c.shade1, c.shade2, c.shade3].getD i.toNat 0 := by
  match i with
  | 0#2 | 1#2 | 2#2 | 3#2 => rfl

theorem paletteColour_eq (c : Params) (palette : Byte) (i : Nat) : paletteColour c palette i = shadeColour c palette i := by
  rw [paletteColour, shade_eq, shadeColour, BitVec.extractLsb'_toNat, Nat.shiftRight_eq_div_pow, Nat.pow_mul]

theorem planeIndex_eq (lo hi : Byte) (bit : Nat) : planeIndex lo hi bit = pixelIndex lo hi bit := by
  rw [planeIndex, pixelIndex, ← BitVec.testBit_toNat, ← BitVec.testBit_toNat, Nat.toNat_testBit, Nat.toNat_testBit]

/-- A sprite paints where its index is not 0 and its priority does not yield (R342). -/
theorem paintedBy_eq (c : Params) (p : Ppu) (col bgIdx : Nat) (e : Sprite) (lo hi : Byte) :
    paintedBy c p col bgIdx e lo hi =
      if spriteIndex p e lo hi col = 0 ∨ (bgPrio e ∧ bgIdx ≠ 0) then none
      else some (paletteColour c (spritePalette p e) (spriteIndex p e lo hi col)) := by
  have hoff : (col : Int) - spriteLeft p e = (col : Int) - ((e.x.toNat : Int) - 8 + (p.scx.toNat % 8 : Nat)) := rfl
  simp only [paintedBy, spriteIndex, hoff, xFlip, bgPrio, spritePalette, ← planeIndex_eq, ← paletteColour_eq]
  generalize (col : Int) - ((e.x.toNat : Int) - 8 + (p.scx.toNat % 8 : Nat)) = off
  by_cases hout : off < 0 ∨ 7 < off
  · rw [if_pos hout, if_neg (by omega), if_pos (.inl rfl)]
  · rw [if_neg hout]
    generalize planeIndex lo hi (if e.attr.getLsbD 5 = true then off.toNat else 7 - off.toNat) = index
    by_cases hyields : index = 0 ∨ e.attr.getLsbD 7 = true ∧ bgIdx ≠ 0
    · rw [if_pos hyields, if_neg]
      rintro ⟨-, -, hopaque, hwins⟩
      rcases hyields with hindex | ⟨hprio, hbg⟩
      · exact hopaque hindex
      · exact hbg (hwins hprio)
    · rw [if_neg hyields, if_pos]
      obtain ⟨hopaque, hwins⟩ := not_or.1 hyields
      exact ⟨by omega, by omega, hopaque, fun hprio => by_contra fun hbg => hwins ⟨hprio, hbg⟩⟩

/-- The first sprite that paints wins, else the background shows (R342). -/
theorem spritePixel_eq (c : Params) (p : Ppu) (col bgIdx : Nat) (bg : Colour) (es : List Sprite) :
    ∀ los his, spritePixel c p col bgIdx bg es los his =
      ((es.zip (los.zip his)).findSome? fun e => paintedBy c p col bgIdx e.1 e.2.1 e.2.2).getD bg := by
  induction es with
  | nil => exact fun _ _ => rfl
  | cons e es ih =>
    intro los his
    cases los with
    | nil => rfl
    | cons lo los =>
      cases his with
      | nil => rfl
      | cons hi his =>
        rw [spritePixel, List.zip_cons_cons, List.zip_cons_cons, List.findSome?_cons, paintedBy_eq, ih]
        split <;> rfl

theorem composePixel_eq (c : Params) (p : Ppu) (i : Nat) : composePixel c p i = shownColour c p i := by
  simp only [composePixel, shownColour, spritePixel_eq, paletteColour_eq, bgIndex, planeIndex_eq]
  rfl

theorem composeTile_eq (c : Params) (p : Ppu) : composeTile c p = (List.range 8).map (shownColour c p) := by
  rw [composeTile, funext (composePixel_eq c p)]

/-! ### The fetcher's states -/

section
variable {c : Params} {m : Memory} {p : Ppu}

theorem fetcherStep_tile (h : p.fetcher.fstate = .tile) : fetcherStep c m p = setFetchState .dataLo (fetchTile m p) := by
  unfold fetcherStep
  rw [h]

theorem fetcherStep_dataLo (h : p.fetcher.fstate = .dataLo) : fetcherStep c m p = setFetchState .dataHi (fetchLow m p) := by
  unfold fetcherStep
  rw [h]

theorem fetcherStep_dataHi (h : p.fetcher.fstate = .dataHi) : fetcherStep c m p = setFetchState .idle (fetchHigh m p) := by
  unfold fetcherStep
  rw [h]

theorem fetcherStep_idle (h : p.fetcher.fstate = .idle) : fetcherStep c m p = setFetchState .push p := by
  unfold fetcherStep
  rw [h]

theorem fetcherStep_push (h : p.fetcher.fstate = .push) : fetcherStep c m p = if canPush p then pushTile c p else p := by
  unfold fetcherStep
  rw [h]

end

/-- Settles O49: each state by its own operation, whose addresses fall in VRAM and whose colours are `shownColour`'s. -/
theorem fetcherStatesInOrder : Obligations.FetcherStatesInOrder := by
  unfold Obligations.FetcherStatesInOrder
  intro c m p f row tileAt height covers rowAt
  have hrow : tileRowAddr p = tileAt := tileRowAddr_eq p
  have htile (k : Nat) (hk : k ≤ 1) : vramRead m (tileRowAddr p + k) = m.read (tileAt + k) := by
    rw [← hrow, vramRead_tileRowAddr p m hk]
  have hbytes (k : Nat) (hk : k ≤ 1) (i : Nat) (e : Sprite) (he : f.fetched[i]? = some e) (hcovers : covers e) :
      (f.fetched.map fun e => vramRead m (spriteRowAddr p e + k))[i]? = some (m.read (rowAt e + k)) := by
    rw [List.getElem?_map, he]
    exact congrArg some (vramRead_spriteRowAddr p m hk ((coversLine_iff p e).2 hcovers))
  refine ⟨fun h hx hline => ?tile, fun h => ?dataLo, fun h => ?dataHi, fetcherStep_idle, fun h hlen => ?waits,
    fun h hlen => ?push⟩
  case tile =>
    intro inWindow mapAt windowAt
    have hwindow : windowHere p = inWindow := windowHere_eq p
    rw [fetcherStep_tile h, fetchTile, vramRead_winMapAddr p m hx hline, vramRead_bgMapAddr p m, ← apply_ite m.read, hwindow]
    rfl
  case dataLo =>
    have hlo : vramRead m (tileRowAddr p) = m.read tileAt := htile 0 (by omega)
    refine ⟨_, List.length_map fun e => vramRead m (spriteRowAddr p e), hbytes 0 (by omega), ?_⟩
    rw [fetcherStep_dataLo h, fetchLow, hlo]
    rfl
  case dataHi =>
    refine ⟨_, List.length_map fun e => vramRead m (spriteRowAddr p e + 1), hbytes 1 (by omega), ?_⟩
    rw [fetcherStep_dataHi h, fetchHigh, htile 1 (by omega)]
    rfl
  case waits =>
    have hfull : canPush p = false := decide_eq_false (not_le.2 hlen)
    rw [fetcherStep_push h, hfull]
    rfl
  case push =>
    have hroom : canPush p = true := decide_eq_true hlen
    rw [fetcherStep_push h, hroom, if_pos rfl, pushTile, composeTile_eq]

end Sys2Proof.Machine
end

section
/-! Lines and frames (spec/48_ppu_modes.md R319, R320, spec/49_ppu_fetcher.md R347): where each mode of a line
ends, and the 154 lines of a frame. -/

namespace Sys2Proof.Machine

/-! ### The pixels of a line -/

theorem fetcherStep_lineX (c : Params) (m : Memory) (p : Ppu) :
    (fetcherStep c m p).fetcher.lineX = p.fetcher.lineX := by
  unfold fetcherStep
  cases p.fetcher.fstate <;> simp only
  case push => split <;> rfl
  all_goals rfl

theorem scrollFine_of_regs {p q : Ppu} (h : SameRegs p q) : scrollFine q = scrollFine p := by
  rw [scrollFine, h.scx, scrollFine]

/-- The pixels shown are those popped less the ones scrolled off (R344). -/
abbrev ShownPixels (p : Ppu) : Prop := p.fetcher.pushedX = p.fetcher.lineX - scrollFine p

theorem shownPixels_pushPixel {p : Ppu} (h : ShownPixels p) : ShownPixels (pushPixel p) := by
  rcases le_or_gt p.fetcher.fifo.length 8 with hlen | hlen
  · rw [pushPixel_of_short hlen]
    exact h
  · obtain ⟨c, rest, hfifo⟩ := List.exists_cons_of_length_pos (Nat.zero_lt_of_lt hlen)
    rw [hfifo, List.length_cons] at hlen
    rw [pushPixel_of_cons hfifo (Nat.le_of_lt_succ hlen)]
    rcases le_or_gt (scrollFine p) p.fetcher.lineX with hcol | hcol
    · rw [showPixel_shown hcol]
      show p.fetcher.pushedX + 1 = p.fetcher.lineX + 1 - scrollFine p
      omega
    · rw [showPixel_dropped hcol]
      show p.fetcher.pushedX = p.fetcher.lineX + 1 - scrollFine p
      omega

theorem shownPixels_transferDot (c : Params) (m : Memory) {p : Ppu} (h : ShownPixels p) :
    ShownPixels (transferDot c m p) := by
  refine shownPixels_pushPixel ?_
  split
  · rw [ShownPixels, fetcherStep_pushedX, fetcherStep_lineX, scrollFine_of_regs (fetcherStep_regs c m p)]
    exact h
  · exact h

/-! ### A visible line -/

/-- The dot at which pixel-transfer ends, by `SCX mod 8` (R320, R347). -/
def transferEnd (fine : Nat) : Nat := if fine = 0 then 297 else 299 + fine

/-- The 160th pixel is the one that ends pixel-transfer. -/
theorem popsAt_transferEnd {fine k : Nat} (hfine : fine < 8) :
    160 ≤ popsAt k - fine ↔ transferEnd fine ≤ 80 + k := by
  unfold popsAt transferEnd
  split <;> split <;> omega

/-- The mode at dot `n` of a visible line. -/
def lineMode (fine n : Nat) : PpuMode :=
  if n < 80 then .oamScan else if n < transferEnd fine then .transfer else .hblank

/-- The generator `n` dots after the start `p` of a visible line. -/
structure VisibleAt (p : Ppu) (n : Nat) (q : Ppu) : Prop where
  dot : q.dot = n
  mode : q.mode = lineMode (scrollFine p) n
  regs : SameRegs p q
  ly : q.ly = p.ly
  frame : q.frame = p.frame
  fetcher : q.mode = .transfer → FetcherAt (n - 80) (popsAt (n - 80)) q ∧ ShownPixels q

theorem lineMode_scan {fine n : Nat} (h : n < 80) : lineMode fine n = .oamScan := if_pos h

theorem lineMode_transfer {fine n : Nat} (hlow : 80 ≤ n) (hhigh : n < transferEnd fine) :
    lineMode fine n = .transfer := by
  rw [lineMode, if_neg (not_lt.2 hlow), if_pos hhigh]

theorem transferEnd_bounds {fine : Nat} (h : fine < 8) : 297 ≤ transferEnd fine ∧ transferEnd fine ≤ 306 := by
  unfold transferEnd
  split <;> omega

theorem lineMode_hblank {fine n : Nat} (hfine : fine < 8) (h : transferEnd fine ≤ n) : lineMode fine n = .hblank := by
  have hbounds := transferEnd_bounds hfine
  rw [lineMode, if_neg (by omega), if_neg (not_lt.2 h)]

theorem scrollFine_lt (p : Ppu) : scrollFine p < 8 := Nat.mod_lt _ (by omega)

/-- A dot of OAM-scan; the 80th makes the fetcher fresh. -/
theorem VisibleAt.scan {p q : Ppu} {n : Nat} (c : Params) (m : Memory) (h : VisibleAt p n q) (hn : n < 80) :
    VisibleAt p (n + 1) (ppuTick c m q) := by
  have hregs := h.regs.trans (ppuTick_regs c m q)
  have htick : ppuTick c m q = _ := ppuTick_oamScan (h.mode.trans (lineMode_scan hn))
  rw [h.dot] at htick
  rw [htick] at hregs ⊢
  by_cases hlast : 79 ≤ n
  · obtain rfl : n = 79 := by omega
    have hend := transferEnd_bounds (scrollFine_lt p)
    exact ⟨rfl, (lineMode_transfer (Nat.le_refl _) (by omega)).symm, hregs, h.ly, h.frame,
      fun _ => ⟨⟨rfl, rfl, rfl, rfl, rfl, Nat.le_refl _, Nat.zero_le _⟩, (Nat.zero_sub _).symm⟩⟩
  · simp only [if_neg hlast] at hregs ⊢
    exact ⟨rfl, (lineMode_scan (by omega)).symm, hregs, h.ly, h.frame, nofun⟩

/-- A dot of pixel-transfer; the one that shows the 160th pixel is the last. -/
theorem VisibleAt.transfer {p q : Ppu} {n : Nat} (c : Params) (m : Memory) (h : VisibleAt p n q) (hlow : 80 ≤ n)
    (hhigh : n < transferEnd (scrollFine p)) : VisibleAt p (n + 1) (ppuTick c m q) := by
  have hmode : q.mode = .transfer := h.mode.trans (lineMode_transfer hlow hhigh)
  have hregs := h.regs.trans (ppuTick_regs c m q)
  obtain ⟨hfetcher, hshown⟩ := h.fetcher hmode
  obtain ⟨htick, -⟩ := ppuTick_transfer (c := c) (m := m) hmode
  have hdot : (countDot q).dot = 80 + (n - 80) + 1 := (congrArg (· + 1) h.dot).trans (by omega)
  have hfine : scrollFine (countDot q) = scrollFine p := (scrollFine_of_regs h.regs : scrollFine q = scrollFine p)
  have hnext : n - 80 + 1 = n + 1 - 80 := by omega
  have hat : FetcherAt (n - 80) (popsAt (n - 80)) (countDot q) := by
    obtain ⟨state, len, fetchX, fifoX, lineX, low, high⟩ := hfetcher
    exact ⟨state, len, fetchX, fifoX, lineX, low, high⟩
  have hat' := transferDot_at c m hdot hat
  have hshown' : ShownPixels (transferDot c m (countDot q)) := shownPixels_transferDot c m (p := countDot q) hshown
  have hline := transferDot_line c m (countDot q)
  have hcolumn : (transferDot c m (countDot q)).fetcher.pushedX = popsAt (n - 80 + 1) - scrollFine p := by
    rw [hshown', hat'.lineX, scrollFine_of_regs (transferDot_regs c m (countDot q)), hfine]
  have hdone : 160 ≤ (transferDot c m (countDot q)).fetcher.pushedX ↔ transferEnd (scrollFine p) ≤ n + 1 := by
    rw [hcolumn, popsAt_transferEnd (scrollFine_lt p)]
    omega
  rw [htick] at hregs ⊢
  rw [hnext] at hat'
  by_cases hend : 160 ≤ (transferDot c m (countDot q)).fetcher.pushedX
  · rw [if_pos hend] at hregs ⊢
    exact ⟨hline.dot.trans (congrArg (· + 1) h.dot), (lineMode_hblank (scrollFine_lt p) (hdone.1 hend)).symm, hregs,
      hline.ly.trans h.ly, hline.frame.trans h.frame, nofun⟩
  · rw [if_neg hend] at hregs ⊢
    have hmore : n + 1 < transferEnd (scrollFine p) := not_le.1 fun hle => hend (hdone.2 hle)
    exact ⟨hline.dot.trans (congrArg (· + 1) h.dot),
      (hline.mode.trans hmode).trans (lineMode_transfer (by omega) hmore).symm, hregs, hline.ly.trans h.ly,
      hline.frame.trans h.frame, fun _ => ⟨hat', hshown'⟩⟩

/-- A dot of H-blank before the line's last. -/
theorem VisibleAt.hblank {p q : Ppu} {n : Nat} (c : Params) (m : Memory) (h : VisibleAt p n q)
    (hlow : transferEnd (scrollFine p) ≤ n) (hhigh : n < 455) : VisibleAt p (n + 1) (ppuTick c m q) := by
  have hfine := scrollFine_lt p
  have hmode : q.mode = .hblank := h.mode.trans (lineMode_hblank hfine hlow)
  have hregs := h.regs.trans (ppuTick_regs c m q)
  obtain ⟨htick, -⟩ := ppuTick_counts (c := c) (m := m) (.inl hmode) (by rw [h.dot]; exact hhigh)
  rw [htick] at hregs ⊢
  exact ⟨congrArg (· + 1) h.dot, hmode.trans (lineMode_hblank hfine (by omega)).symm, hregs, h.ly, h.frame,
    fun htransfer => by cases hmode.symm.trans htransfer⟩

theorem visibleAt_iterate (c : Params) (m : Memory) {p : Ppu}
    (hmode : p.mode = .oamScan) (hdot : p.dot = 0) {n : Nat} (hn : n ≤ 455) :
    VisibleAt p n ((Machine.ppuTick c m)^[n] p) := by
  induction n with
  | zero => exact ⟨hdot, hmode, .refl p, rfl, rfl, fun h => by cases hmode.symm.trans h⟩
  | succ n ih =>
    rw [Function.iterate_succ_apply']
    rcases lt_or_ge n 80 with hscan | hscan
    · exact (ih (by omega)).scan c m hscan
    · rcases lt_or_ge n (transferEnd (scrollFine p)) with htransfer | htransfer
      · exact (ih (by omega)).transfer c m hscan htransfer
      · exact (ih (by omega)).hblank c m htransfer hn

/-- Settles O52: the modes of a visible line at its dots, with the scroll the line started with. -/
theorem transferLengthByScroll : Obligations.TransferLengthByScroll := by
  unfold Obligations.TransferLengthByScroll
  intro c m p hmode hdot h
  have hend : h = transferEnd (scrollFine p) := rfl
  have hbounds := transferEnd_bounds (scrollFine_lt p)
  rw [← hend] at hbounds
  have hline (n : Nat) (hn : n ≤ 455) := visibleAt_iterate c m hmode hdot hn
  have hblank := hline h (by omega)
  exact ⟨(hline 79 (by omega)).mode.trans (lineMode_scan (by omega)),
    (hline 80 (by omega)).mode.trans (lineMode_transfer (by omega) (by omega)),
    (hline (h - 1) (by omega)).mode.trans (lineMode_transfer (by omega) (by omega)),
    hblank.mode.trans (lineMode_hblank (scrollFine_lt p) (by omega)), hblank.dot⟩

/-! ### A frame -/

/-- The start of line `y` in the frame that began with `frame` on the frame counter. -/
structure LineStart (frame y : Nat) (p : Ppu) : Prop where
  dot : p.dot = 0
  ly : p.ly.toNat = y
  mode : p.mode = if y < 144 then .oamScan else .vblank
  frame : p.frame = if y < 144 then frame else frame + 1
  ready : 144 ≤ y → p.frameReady = true

/-- The dots of a line of V-blank before the last only count (R311). -/
theorem vblank_iterate (c : Params) (m : Memory) {p : Ppu} (hmode : p.mode = .vblank) (hdot : p.dot = 0) {n : Nat}
    (hn : n ≤ 455) : (ppuTick c m)^[n] p = { p with dot := n } := by
  induction n with
  | zero => exact congrArg (fun d => { p with dot := d }) hdot
  | succ n ih =>
    obtain ⟨htick, -⟩ := ppuTick_counts (c := c) (m := m) (p := { p with dot := n }) (.inr hmode) hn
    rw [Function.iterate_succ_apply', ih (by omega), htick]

theorem toNat_ofNat_line {line : Nat} (h : line ≤ 153) : (BitVec.ofNat 8 line).toNat = line := by
  rw [BitVec.toNat_ofNat]
  exact Nat.mod_eq_of_lt (by omega)

/-- The last dot of a visible line starts the next line (R308, R309). -/
theorem LineStart.of_hblankEnd {frame y : Nat} {q : Ppu} (c : Params) (m : Memory) (hmode : q.mode = .hblank)
    (hdot : q.dot = 455) (hly : q.ly.toNat = y) (hframe : q.frame = frame) (hy : y < 144) :
    LineStart frame (y + 1) (ppuTick c m q) := by
  obtain ⟨htick, -⟩ := ppuTick_hblankEnd (c := c) (m := m) hmode hdot.ge (by omega)
  rw [hly] at htick
  rw [htick]
  by_cases hlast : y + 1 = 144
  · simp only [if_pos hlast, decide_eq_true hlast, Bool.true_or]
    have hmore : ¬ y + 1 < 144 := by omega
    exact ⟨rfl, toNat_ofNat_line (by omega), (if_neg hmore).symm, by rw [if_neg hmore, ← hframe], fun _ => rfl⟩
  · simp only [if_neg hlast, decide_eq_false hlast, Bool.false_or]
    have hmore : y + 1 < 144 := by omega
    exact ⟨rfl, toNat_ofNat_line (by omega), (if_pos hmore).symm, by rw [if_pos hmore, ← hframe], fun h => by omega⟩

/-- A line is 456 dots (R319). -/
theorem LineStart.next {frame y : Nat} {p : Ppu} (c : Params) (m : Memory) (h : LineStart frame y p) (hy : y < 153) :
    LineStart frame (y + 1) ((ppuTick c m)^[456] p) := by
  rw [Function.iterate_succ_apply']
  rcases lt_or_ge y 144 with hvisible | hvisible
  · have hlast := visibleAt_iterate c m (h.mode.trans (if_pos hvisible)) h.dot (n := 455) (by omega)
    have hend := transferEnd_bounds (scrollFine_lt p)
    exact .of_hblankEnd c m (hlast.mode.trans (lineMode_hblank (scrollFine_lt p) (by omega))) hlast.dot
      ((congrArg BitVec.toNat hlast.ly).trans h.ly) (hlast.frame.trans (h.frame.trans (if_pos hvisible))) hvisible
  · have hv : ¬ y < 144 := not_lt.2 hvisible
    have hmode : p.mode = .vblank := h.mode.trans (if_neg hv)
    have hframe : p.frame = frame + 1 := h.frame.trans (if_neg hv)
    have hline : (if 153 ≤ p.ly.toNat then 0 else p.ly.toNat + 1) = y + 1 := by rw [h.ly, if_neg (by omega)]
    obtain ⟨htick, -⟩ := ppuTick_vblankEnd (c := c) (m := m) (p := { p with dot := 455 }) hmode (Nat.le_refl _)
    simp only [hline] at htick
    have hmore : ¬ y + 1 < 144 := by omega
    rw [vblank_iterate c m hmode h.dot (Nat.le_refl _), htick]
    exact ⟨rfl, toNat_ofNat_line (by omega), (if_neg hmore).symm, hframe.trans (if_neg hmore).symm,
      fun _ => h.ready hvisible⟩

/-- The last line of V-blank starts the next frame (R311). -/
theorem LineStart.wrap {frame : Nat} {p : Ppu} (c : Params) (m : Memory) (h : LineStart frame 153 p) :
    let q := (ppuTick c m)^[456] p
    q.mode = .oamScan ∧ q.dot = 0 ∧ q.ly = 0x00#8 ∧ q.windowLine = 0 ∧ q.frame = frame + 1 ∧ q.frameReady = true := by
  have hline : (if 153 ≤ p.ly.toNat then 0 else p.ly.toNat + 1) = 0 := by rw [h.ly, if_pos (Nat.le_refl _)]
  obtain ⟨htick, -⟩ := ppuTick_vblankEnd (c := c) (m := m) (p := { p with dot := 455 }) h.mode (Nat.le_refl _)
  simp only [hline] at htick
  rw [Function.iterate_succ_apply', vblank_iterate c m h.mode h.dot (Nat.le_refl _), htick]
  exact ⟨rfl, rfl, rfl, rfl, h.frame, h.ready (by omega)⟩

/-- `y` lines from the start of line 0 on. -/
theorem lineStart_iterate (c : Params) (m : Memory) {p : Ppu} (hmode : p.mode = .oamScan) (hdot : p.dot = 0)
    (hly : p.ly = 0x00#8) {y : Nat} (hy : y ≤ 153) : LineStart p.frame y (((ppuTick c m)^[456])^[y] p) := by
  induction y with
  | zero => exact ⟨hdot, congrArg BitVec.toNat hly, hmode, rfl, fun h => by omega⟩
  | succ y ih =>
    rw [Function.iterate_succ_apply']
    exact (ih (by omega)).next c m (by omega)

theorem iterate_lines {α : Type} (f : α → α) (y n : Nat) (x : α) : f^[456 * y + n] x = f^[n] ((f^[456])^[y] x) := by
  rw [Nat.add_comm, Function.iterate_add_apply, Function.iterate_mul]

/-- Settles O53: 144 visible lines and ten of V-blank, each of 456 dots. -/
theorem oneFrameIsSeventyThousandDots : Obligations.OneFrameIsSeventyThousandDots := by
  unfold Obligations.OneFrameIsSeventyThousandDots
  intro c m p hmode hdot hly q
  have hline {y : Nat} (hy : y ≤ 153) := lineStart_iterate c m hmode hdot hly hy
  have hq : q = (ppuTick c m)^[456] (((ppuTick c m)^[456])^[153] p) := iterate_lines (ppuTick c m) 153 456 p
  have hlast : (ppuTick c m)^[65663] p = (ppuTick c m)^[455] (((ppuTick c m)^[456])^[143] p) :=
    iterate_lines (ppuTick c m) 143 455 p
  have hvblank : (ppuTick c m)^[65664] p = ((ppuTick c m)^[456])^[144] p :=
    congrFun (Function.iterate_mul (ppuTick c m) 456 144) p
  obtain ⟨hqmode, hqdot, hqly, hqwindow, hqframe, hqready⟩ := (hline (Nat.le_refl 153)).wrap c m
  have h143 := hline (y := 143) (by omega)
  generalize ((ppuTick c m)^[456])^[143] p = r at hlast h143
  have hdots := visibleAt_iterate c m h143.mode h143.dot (Nat.le_refl 455)
  have hend := transferEnd_bounds (scrollFine_lt r)
  rw [hq, hlast, hvblank]
  exact ⟨hqmode, hqdot, hqly, hqwindow, hqframe, hqready,
    hdots.mode.trans (lineMode_hblank (scrollFine_lt r) (by omega)),
    (hline (y := 144) (by omega)).mode⟩

end Sys2Proof.Machine
end
